-- ==== Sys2Proof/Word.lean ====
section
/-! DEFINITION. The widths the spec names (00_scope.md R9, R11, R12). -/
namespace Sys2Proof

/-- One exchanged byte, a channel index, a selector or a code (`Xchg`, R13; `REQ.A`, R21). -/
abbrev Byte := BitVec 8

/-- A command, response or register value: `CMD_BITS`, `REG_BITS` (R9). -/
abbrev Half := BitVec 16

/-- One frame word: `WORD_BITS`, `SAMPLE_BITS` (R9). -/
abbrev Slot := BitVec 24

/-- The container of a received slot: `CONT_BITS` (R9). -/
abbrev Cont := BitVec 32

/-- A register address as the command word's field holds it: `ADDR_BITS` (R9). -/
abbrev Addr := BitVec 6

end Sys2Proof
end

