-- ==== Sys2Proof/Config.lean ====
section
/-! DEFINITION. Parameters of the core (00_scope.md R9, R10; 10_state.md R33) and the free values. -/
namespace Sys2Proof

/-- The parameters the spec leaves open (R10), with the static inputs `CFG.*` (R33).
The machine carries them, so a statement about every state holds for every choice of them. -/
structure Params where
  opNull : Half
  opReset : Half
  opStandby : Half
  opWakeup : Half
  opLock : Half
  opUnlock : Half
  opRead : Half
  opWrite : Half
  opWack : Half
  fsUv : BitVec 31
  zUv : BitVec 32
  kQ : BitVec 24
  kFrac : Nat
  idMask : Half
  idExpect : Half
  gainMax : Nat
  chopDelayMax : Nat
  osrLsb : Nat
  osrMask : Half
  osrMax : Nat
  pwrLsb : Nat
  pwrMask : Half
  pwrMax : Nat
  drdyStatMask : Half
  hasDrdy : Bool
  transportValid : Bool
  deriving DecidableEq, Repr

/-- The defaults of R10. PRESUMED (log 7): the opcode, OSR, PWR and data-ready-mask values are the spec's
"from general knowledge, not in source". -/
def Params.default : Params where
  opNull := 0x0000
  opReset := 0x0011
  opStandby := 0x0022
  opWakeup := 0x0033
  opLock := 0x0555
  opUnlock := 0x0655
  opRead := 0xA000
  opWrite := 0x6000
  opWack := 0x4000
  fsUv := 1200000
  zUv := 0
  kQ := 65536
  kFrac := 16
  idMask := 0xFF00
  idExpect := 0x2403
  gainMax := 15
  chopDelayMax := 128
  osrLsb := 2
  osrMask := 0x001C
  osrMax := 7
  pwrLsb := 0
  pwrMask := 0x0003
  pwrMax := 3
  drdyStatMask := 0x000F
  hasDrdy := true
  transportValid := true

/-- The six words whose whole 16 bits are the opcode (30_encoding.md R80, R92), in `CMD`'s order (R190). -/
def Params.standalone (p : Params) : List Half :=
  [p.opNull, p.opReset, p.opStandby, p.opWakeup, p.opLock, p.opUnlock]

/-- Bits 15:13 of a command word: the opcode of READ, WRITE and WACK (R80). -/
def opcodeMask : Half := 0xE000

/-- Bits 15:13 and 6:0: the mask of the READ, WRITE and WACK rows (R92). -/
def addressedMask : Half := 0xE07F

/-- What a choice of wire words must satisfy to be read back without doubt: R92 (the eight constants distinct,
the bases of READ and WRITE zero below the opcode, R85), and no standalone word in READ's or WRITE's row.
The acknowledgement may equal WRITE (R129). -/
abbrev Params.wireOk (p : Params) : Prop :=
  p.standalone.Nodup ∧
  p.opRead &&& opcodeMask = p.opRead ∧ p.opWrite &&& opcodeMask = p.opWrite ∧
  p.opWack &&& opcodeMask = p.opWack ∧
  p.opRead ≠ p.opWrite ∧
  ∀ c ∈ p.standalone, c &&& addressedMask ≠ p.opRead ∧ c &&& addressedMask ≠ p.opWrite

/-- The acknowledgement has a row of its own (the default of R129; the other reading sets it equal to WRITE). -/
abbrev Params.wackDistinct (p : Params) : Prop :=
  p.opWack ≠ p.opRead ∧ p.opWack ≠ p.opWrite ∧
  ∀ c ∈ p.standalone, c &&& addressedMask ≠ p.opWack

/-! Constants of R9 that rules compute with. -/

/-- `FS_CODES` = 2^23 − 1. -/
def fsCodes : Int := 8388607

/-- The bus-session constants of R9, handed to the transport collaborator and visible to no rule
(40_frame_transport.md R116). -/
structure Session where
  spiHz : Nat
  idleHigh : Bool
  sampleLeadingEdge : Bool
  deriving DecidableEq, Repr

/-- 25 MHz, clock idle low, sample on the leading edge (R9). -/
def session : Session where
  spiHz := 25000000
  idleHigh := false
  sampleLeadingEdge := true

/-! Free values: nothing in Lean can say what they are. -/

/-- The byte the environment returns when nothing else fixes it (20_memory.md R66), by draw number. Log 2. -/
opaque Config.freeByte : Nat → Byte

/-- The level `ReadDRDY` returns when nothing else fixes it (R66), by draw number. Log 2. -/
opaque Config.freeLevel : Nat → Bool

/-- The contents of the unspecified registers after a reset (10_state.md R35, R36: "an arbitrary draw"),
by draw number and register index. Log 3. -/
opaque Config.resetBits : Nat → Nat → BitVec 64

/-- What a host read of a result register returns while BUSY = 1 (93_implementation_defined.md U6),
by draw number and register index. Log 11. -/
opaque Config.freeRead : Nat → Nat → BitVec 64

/-- `GAS` where the exact result fits no 64-bit register (43_scaling.md R163 states none), by draw number. Log 12. -/
opaque Config.freeGas : Nat → BitVec 64

end Sys2Proof
end

