-- ==== Sys2Proof/Syntax.lean ====
section
/-! DEFINITION. The two levels of instructions (00_scope.md R3) and their encodings' shape. -/
namespace Sys2Proof

/-- The request record `REQ` (10_state.md R21; 30_encoding.md R94). It is not a packed word. -/
structure Request where
  op : BitVec 5
  a : Byte
  d : Half
  m : Half
  w : BitVec 32
  l : Vector Byte 4
  n : Byte
  deriving DecidableEq, Repr

/-- A request with operation code `op` and every operand register zero. -/
def Request.ofOp (op : BitVec 5) : Request where
  op := op
  a := 0
  d := 0
  m := 0
  w := 0
  l := #v[0, 0, 0, 0]
  n := 0

/-- One constructor per row of the opcode table: nine wire words (R92), eighteen host operations (R95). -/
inductive Instr where
  /-- Wire word NULL (R191). -/
  | null
  /-- Wire word RESET (R192). -/
  | reset
  /-- Wire word STANDBY (R193). -/
  | standby
  /-- Wire word WAKEUP (R194). -/
  | wakeup
  /-- Wire word LOCK (R195). -/
  | lock
  /-- Wire word UNLOCK (R196). -/
  | unlock
  /-- Wire word READ(addr) (R197). -/
  | read (addr : Addr)
  /-- Wire word WRITE(addr) with its data word in slot 1 (R198). -/
  | write (addr : Addr) (data : Half)
  /-- Response word WACK(addr), device to core (R199). -/
  | wack (addr : Addr)
  /-- XFRAME(cmd16) (R117). -/
  | xframe (cmd : Half)
  /-- CMD(sel) (R190). -/
  | cmd (sel : Byte)
  /-- RDREG(addr) (R126). -/
  | rdreg (addr : Byte)
  /-- WRREG(addr, value) (R128). -/
  | wrreg (addr : Byte) (value : Half)
  /-- WRMASK(addr, data, mask) (R131). -/
  | wrmask (addr : Byte) (data : Half) (mask : Half)
  /-- RDCHS([i0, ...], count) (R144). -/
  | rdchs (lanes : Vector Byte 4) (count : Byte)
  /-- RDCH(i) (R146). -/
  | rdch (chan : Byte)
  /-- RDVOLT(i) (R160). -/
  | rdvolt (chan : Byte)
  /-- DRDY() (R182). -/
  | drdy
  /-- RDID() (R170). -/
  | rdid
  /-- BEGIN() (R172). -/
  | begin
  /-- SETGAIN(g0, g1, g2, g3) (R174). -/
  | setgain (codes : Vector Byte 4)
  /-- GCHOP(enable, delay) (R176). -/
  | gchop (enable : Byte) (delay : Half)
  /-- SETOSR(code) (R178). -/
  | setosr (code : Byte)
  /-- SETPWR(code) (R180). -/
  | setpwr (code : Byte)
  /-- DECODE(container32) (R142). -/
  | decode (w : BitVec 32)
  /-- SCALE(code) (R156). -/
  | scale (w : BitVec 32)
  /-- GASCONV() (R163). -/
  | gasconv
  deriving DecidableEq, Repr

/-- How an instruction is written down: a wire word `c` with the data word `d` of slot 1 (30_encoding.md R83),
or a host request (R94). -/
inductive Encoding where
  | frame (c d : Half)
  | request (r : Request)
  deriving DecidableEq, Repr

end Sys2Proof
end

