-- ==== Sys2Proof/WellFormed.lean ====
section
/-! DEFINITION. The legal operand ranges (30_encoding.md R96; 60_exceptions.md R209). -/
namespace Sys2Proof

/-- The operands are in the ranges of R96. What is not well formed is a parameter failure (R209). -/
def Instr.wellFormed (p : Params) : Instr → Bool
  | .null | .reset | .standby | .wakeup | .lock | .unlock => true
  | .read _ | .write _ _ | .wack _ => true
  | .xframe _ => true
  | .cmd sel => sel.toNat ≤ 5
  | .rdreg a => a.toNat ≤ 0x3F
  | .wrreg a _ => a.toNat ≤ 0x3F
  | .wrmask a _ _ => a.toNat ≤ 0x3F
  | .rdchs l n => n.toNat ≤ 4 && (List.range n.toNat).all fun j => (l[j]?.getD 0).toNat ≤ 3
  | .rdch i => i.toNat ≤ 3
  | .rdvolt i => i.toNat ≤ 3
  | .drdy | .rdid | .begin => true
  | .setgain g => g.toList.all fun c => c.toNat ≤ p.gainMax
  | .gchop en d => en.toNat ≤ 1 && (1 ≤ d.toNat && d.toNat ≤ p.chopDelayMax)
  | .setosr c => c.toNat ≤ p.osrMax
  | .setpwr c => c.toNat ≤ p.pwrMax
  | .decode _ => true
  | .scale w => -8388608 ≤ w.toInt && w.toInt ≤ 8388607
  | .gasconv => true

end Sys2Proof
end

