-- ==== Sys2Proof/Decode.lean ====
section
/-! DEFINITION. Decoding and encoding of both levels (30_encoding.md R80 to R98). -/
namespace Sys2Proof

/-! Fields of a command word. -/

/-- `OP | (zext_16(A) << 7)` (R85). -/
def withAddr (op : Half) (a : Addr) : Half := op ||| (a.setWidth 16 <<< 7)

/-- The address field, bits 12:7 (R80). -/
def addrOf (c : Half) : Addr := c.extractLsb' 7 6

/-- A 16-bit quantity in a slot: `v ‖ 0x00` (R81). -/
def slotOf (v : Half) : Slot := v ++ 0#8

/-- The six 24-bit words a frame transmits (R83, R111). -/
def txSlots (c d : Half) : List Slot := [slotOf c, slotOf d, 0#24, 0#24, 0#24, 0#24]

/-- A slot's three bytes, most significant first (20_memory.md R52). -/
def slotBytes (w : Slot) : List Byte := [w.extractLsb' 16 8, w.extractLsb' 8 8, w.extractLsb' 0 8]

/-- The 18 bytes a frame transmits. -/
def frameBytes (c d : Half) : List Byte := (txSlots c d).flatMap slotBytes

/-- Why bits stand for no instruction. -/
inductive Reject where
  /-- An `OP` of 0x12 to 0x1F (R98). -/
  | reservedOp (op : BitVec 5)
  /-- No row of R92 has these opcode bits. -/
  | unknownWord (c : Half)
  /-- Opcode bits of READ, WRITE or WACK with bits 6:0 not zero (R92's mask, R97). -/
  | reservedBits (c : Half)
  /-- A data word in slot 1 of a frame that is no WRITE (R83). -/
  | strayData (c d : Half)
  /-- Not the 18 bytes of a frame (R99). -/
  | badLength (n : Nat)
  /-- A byte that R112 sends as zero is not zero. -/
  | strayBytes
  deriving DecidableEq, Repr

/-- A word that carries no data of its own: slot 1 must be zero (R83). -/
def dataless (c d : Half) (i : Instr) : Except Reject Instr :=
  if d = 0 then .ok i else .error (.strayData c d)

/-- A wire word by R93's order, the six standalone constants by all 16 bits first, then READ and WRITE, and WACK, under
R92's mask: DESIGN CHOICE, where R93's test of bits 15:13 alone would take more words (log 21). -/
def decodeWire (p : Params) (c d : Half) : Except Reject Instr :=
  if c = p.opNull then dataless c d .null
  else if c = p.opReset then dataless c d .reset
  else if c = p.opStandby then dataless c d .standby
  else if c = p.opWakeup then dataless c d .wakeup
  else if c = p.opLock then dataless c d .lock
  else if c = p.opUnlock then dataless c d .unlock
  else if c &&& addressedMask = p.opRead then dataless c d (.read (addrOf c))
  else if c &&& addressedMask = p.opWrite then .ok (.write (addrOf c) d)
  else if c &&& addressedMask = p.opWack then dataless c d (.wack (addrOf c))
  else if c &&& opcodeMask = p.opRead ∨ c &&& opcodeMask = p.opWrite ∨ c &&& opcodeMask = p.opWack then
    .error (.reservedBits c)
  else .error (.unknownWord c)

/-- The 18 transmitted bytes of a frame as a wire word; total on any bytes. -/
def decodeBytes (p : Params) (bs : List Byte) : Except Reject Instr :=
  if bs.length ≠ 18 then .error (.badLength bs.length)
  else
    let c : Half := bs.getD 0 0 ++ bs.getD 1 0
    let d : Half := bs.getD 3 0 ++ bs.getD 4 0
    if bs = frameBytes c d then decodeWire p c d else .error .strayBytes

/-- A host request by its `OP` (R95) with the operands of R96; the other fields are ignored. -/
def decodeRequest (r : Request) : Except Reject Instr :=
  match r.op.toNat with
  | 0x00 => .ok (.xframe r.d)
  | 0x01 => .ok (.cmd r.a)
  | 0x02 => .ok (.rdreg r.a)
  | 0x03 => .ok (.wrreg r.a r.d)
  | 0x04 => .ok (.wrmask r.a r.d r.m)
  | 0x05 => .ok (.rdchs r.l r.n)
  | 0x06 => .ok (.rdch r.a)
  | 0x07 => .ok (.rdvolt r.a)
  | 0x08 => .ok .drdy
  | 0x09 => .ok .rdid
  | 0x0A => .ok .begin
  | 0x0B => .ok (.setgain r.l)
  | 0x0C => .ok (.gchop r.a r.d)
  | 0x0D => .ok (.setosr r.a)
  | 0x0E => .ok (.setpwr r.a)
  | 0x0F => .ok (.decode r.w)
  | 0x10 => .ok (.scale r.w)
  | 0x11 => .ok .gasconv
  | _ => .error (.reservedOp r.op)

/-- Either level. -/
def decode (p : Params) : Encoding → Except Reject Instr
  | .frame c d => decodeWire p c d
  | .request r => decodeRequest r

/-! The encoder, from the tables of R92 and R95, R96. -/

/-- A wire word as slots 0 and 1 carry it, a host operation as its request (unlisted operand registers zero). -/
def encode (p : Params) : Instr → Encoding
  | .null => .frame p.opNull 0
  | .reset => .frame p.opReset 0
  | .standby => .frame p.opStandby 0
  | .wakeup => .frame p.opWakeup 0
  | .lock => .frame p.opLock 0
  | .unlock => .frame p.opUnlock 0
  | .read a => .frame (withAddr p.opRead a) 0
  | .write a v => .frame (withAddr p.opWrite a) v
  | .wack a => .frame (withAddr p.opWack a) 0
  | .xframe c => .request { Request.ofOp 0x00 with d := c }
  | .cmd sel => .request { Request.ofOp 0x01 with a := sel }
  | .rdreg a => .request { Request.ofOp 0x02 with a := a }
  | .wrreg a v => .request { Request.ofOp 0x03 with a := a, d := v }
  | .wrmask a v m => .request { Request.ofOp 0x04 with a := a, d := v, m := m }
  | .rdchs l n => .request { Request.ofOp 0x05 with l := l, n := n }
  | .rdch i => .request { Request.ofOp 0x06 with a := i }
  | .rdvolt i => .request { Request.ofOp 0x07 with a := i }
  | .drdy => .request (Request.ofOp 0x08)
  | .rdid => .request (Request.ofOp 0x09)
  | .begin => .request (Request.ofOp 0x0A)
  | .setgain g => .request { Request.ofOp 0x0B with l := g }
  | .gchop en v => .request { Request.ofOp 0x0C with a := en, d := v }
  | .setosr c => .request { Request.ofOp 0x0D with a := c }
  | .setpwr c => .request { Request.ofOp 0x0E with a := c }
  | .decode w => .request { Request.ofOp 0x0F with w := w }
  | .scale w => .request { Request.ofOp 0x10 with w := w }
  | .gasconv => .request (Request.ofOp 0x11)

/-! The opcode table's numbering (log 16): a row of at most 8 bits is a host request's `OP`,
a longer one a wire word in bits 15:0 with slot 1's data word in bits 31:16. -/

/-- The encoding that `nbits` bits numbered as the table numbers them stand for; `none` where bits are set
that no such encoding has. -/
def tableEncoding (nbits w : Nat) : Option Encoding :=
  if nbits ≤ 8 then
    if w < 32 then some (.request (Request.ofOp (BitVec.ofNat 5 w))) else none
  else
    if w < 2 ^ 32 then some (.frame (BitVec.ofNat 16 w) (BitVec.ofNat 16 (w / 65536))) else none

/-- The instruction the decoder reads from a table word, with the table's default wire words. -/
def decodeTableWord (nbits w : Nat) : Option Instr :=
  match tableEncoding nbits w with
  | some e => (decode Params.default e).toOption
  | none => none

end Sys2Proof
end

