-- ==== Sys2Proof/Machine/State.lean ====
section
/-! DEFINITION. The state (10_state.md R20 to R36), the reasons a step can stop, and reset (R35). -/
namespace Sys2Proof.Machine

/-- One call of a collaborator primitive (00_scope.md R13). -/
inductive Event where
  /-- `SetCS(active)`. -/
  | cs (active : Bool)
  /-- `Xchg`: the byte sent and the byte returned. -/
  | x (sent received : Byte)
  /-- `ReadDRDY`. -/
  | dr (level : Bool)
  deriving DecidableEq, Repr

/-- The sequencer `SEQ = (run, fr, pos)` (R27). -/
structure SeqState where
  run : Bool
  fr : Fin 4
  pos : Fin 20
  deriving DecidableEq, Repr

/-- `(false, 0, 0)` (R27, R35). -/
def SeqState.idle : SeqState where
  run := false
  fr := 0
  pos := 0

/-- The reference device FDEV (20_memory.md R70). It is the environment's, not the core's (R75). Every field of R70 is a
parameter of a test; of these only `ackbad` has a default. -/
structure Fdev where
  reg : Vector Half 64
  resp : Half
  ch : Vector Slot 4
  crc : Slot
  ackbad : Bool := false
  /-- The bytes received so far in the current frame. -/
  got : List Byte
  deriving DecidableEq, Repr

/-- The environment (R66; log 2): FDEV if there is one, else the bytes fixed in advance, else free values. -/
structure Env where
  dev : Option Fdev
  bytes : List Byte
  levels : List Bool
  deriving DecidableEq, Repr

/-- No device, nothing fixed in advance: every answer is a free value. -/
def Env.free : Env where
  dev := none
  bytes := []
  levels := []

/-- A host write of one request register (R21). -/
inductive ReqWrite where
  | op (v : BitVec 5)
  | a (v : Byte)
  | d (v : Half)
  | m (v : Half)
  | w (v : BitVec 32)
  | l (j : Fin 4) (v : Byte)
  | n (v : Byte)
  deriving DecidableEq, Repr

/-- What the host does next (log 4). -/
inductive HostAction where
  /-- Write one request register (R21, R22). -/
  | write (w : ReqWrite)
  /-- Pulse `START` and go on without waiting (R26): the core then makes one primitive call a step (R28). -/
  | start
  /-- Write all of `REQ`, pulse `START` and block until `DONE` (R26: "The call is blocking"). -/
  | call (r : Request)
  /-- The model's own: run the frame of a wire word `c` with data word `d` (log 5). -/
  | wire (c d : Half)
  /-- Wait until `BUSY = 0`. -/
  | await
  /-- Let the core make one primitive call. -/
  | yield
  /-- Change the configuration inputs (70_reset_and_hazards.md R245, R253). -/
  | configure (p : Params)
  /-- Reset the core (R240, R241). -/
  | reset
  deriving DecidableEq, Repr

/-- The core's side of the bus and what stands behind it. -/
structure Bus where
  /-- `CS`, the level last driven by `SetCS` (R31). -/
  cs : Bool
  /-- The environment (log 2). The model's own. -/
  env : Env
  /-- The trace of events (00_scope.md R13; log 13). The model's own. -/
  trace : List Event
  /-- The counter the free values of Config are applied to (log 2). The model's own. -/
  draws : Nat
  deriving DecidableEq, Repr

/-- The machine. The fields down to `seq`, and `bus.cs`, are the core's (R20); the rest are the model's own. -/
structure State where
  /-- `REQ.*` (R21). -/
  req : Request
  /-- `LAT.*` (R30). -/
  lat : Request
  /-- `TMP_OLD`, `TMP_NEW` (R30). -/
  tmpOld : Half
  tmpNew : Half
  /-- `RX[0..5]` (R24). -/
  rx : Vector Cont 6
  /-- `RDATA`, `SAMPLE[0..3]`, `VOLT`, `GAS`, `DRDYV` (R23). -/
  rdata : Half
  sample : Vector (BitVec 32) 4
  volt : BitVec 64
  gas : BitVec 64
  drdyv : Bool
  /-- `BUSY`, `DONE`, `OK`, `ERR` (R25). -/
  busy : Bool
  done : Bool
  ok : Bool
  err : BitVec 3
  /-- `SEQ` (R27). -/
  seq : SeqState
  /-- `CS` (R31), and the environment, the trace and the draw counter. -/
  bus : Bus
  /-- Configuration inputs, not state by R33 (log 1). -/
  cfg : Params
  /-- What the host does next (log 4). -/
  host : List HostAction
  deriving DecidableEq, Repr

/-- No step of this machine faults: "There is no `fault` treatment beyond the four failure classes"
(93_implementation_defined.md), and a failure class is a next state with `OK = 0` (60_exceptions.md R205).
The type has no constructor (log 14). -/
inductive Fault where
  deriving DecidableEq, Repr

/-- The treatments `refuse` of 93_implementation_defined.md part 1. -/
inductive Refusal where
  /-- Raised by the dispatch for an instruction without a meaning; no instruction is so. Safe. -/
  | notModelled (mnemonic : String)
  /-- U1: raised by the host port for a `START` (or a call) while `BUSY = 1` (R26; log 10). Safe. -/
  | startWhileBusy
  /-- U2: raised before the first collaborator call of an operation whose transport is invalid (R207; log 8). Safe. -/
  | transportInvalid
  /-- U5: raised by DRDY when `HAS_DRDY` is false (44_config_ops.md R182; log 9). Safe. -/
  | drdyAbsent
  /-- U7: raised by the host port for a reset while `BUSY = 1` (70_reset_and_hazards.md R241; log 10). Safe. -/
  | resetWhileBusy
  /-- U11: raised by the host port for a configuration change while `BUSY = 1` (R245; log 10). Safe. -/
  | configureWhileBusy
  deriving DecidableEq, Repr

/-- The free contents of register number `k` after the reset with draw number `d` (R35, R36; log 3). -/
def resetField (d k n : Nat) : BitVec n := (Config.resetBits d k).setWidth n

/-- An unspecified request record; `k` is the index of its first field. -/
def Request.unspecified (d k : Nat) : Request where
  op := resetField d k 5
  a := resetField d (k + 1) 8
  d := resetField d (k + 2) 16
  m := resetField d (k + 3) 16
  w := resetField d (k + 4) 32
  l := #v[resetField d (k + 5) 8, resetField d (k + 6) 8, resetField d (k + 7) 8, resetField d (k + 8) 8]
  n := resetField d (k + 9) 8

/-- The core after a reset (R35, R240), in a given surrounding: control state idle and zero, `CS` deasserted,
trace empty, every data register unspecified. -/
def State.afterReset (p : Params) (e : Env) (h : List HostAction) (d : Nat) : State where
  req := Request.unspecified d 0
  lat := Request.unspecified d 10
  tmpOld := resetField d 20 16
  tmpNew := resetField d 21 16
  rx := #v[resetField d 22 32, resetField d 23 32, resetField d 24 32, resetField d 25 32,
    resetField d 26 32, resetField d 27 32]
  rdata := resetField d 28 16
  sample := #v[resetField d 29 32, resetField d 30 32, resetField d 31 32, resetField d 32 32]
  volt := resetField d 33 64
  gas := resetField d 34 64
  drdyv := (resetField d 35 1).getLsbD 0
  busy := false
  done := false
  ok := false
  err := 0
  seq := SeqState.idle
  bus := { cs := false, env := e, trace := [], draws := d + 1 }
  cfg := p
  host := h

/-- The machine right after reset, with default parameters, a free environment and a host that does nothing. -/
def State.reset : State := State.afterReset Params.default Env.free [] 0

end Sys2Proof.Machine
end

