-- ==== Sys2Proof/Machine/Environment.lean ====
section
/-! DEFINITION. How the environment answers (20_memory.md R66), and the reference device FDEV (R70 to R76). -/
namespace Sys2Proof.Machine

/-- The six words FDEV returns in a frame (R71). -/
def fdevSlots (f : Fdev) : List Slot := [slotOf f.resp, f.ch[0], f.ch[1], f.ch[2], f.ch[3], f.crc]

/-- The 18 bytes FDEV returns in a frame (R71). -/
def fdevBytes (f : Fdev) : List Byte := (fdevSlots f).flatMap slotBytes

/-- What FDEV does with a frame whose slot 0 held the command `c` and slot 1 the data `v` (R72), its cases in R72's order. -/
def fdevReact (p : Params) (c v : Half) (f : Fdev) : Fdev :=
  if c = p.opNull then { f with resp := f.reg[1] }
  else if c &&& opcodeMask = p.opRead &&& opcodeMask then { f with resp := f.reg[(addrOf c).toNat] }
  else if c &&& opcodeMask = p.opWrite &&& opcodeMask then
    { f with reg := f.reg.set (addrOf c).toNat v,
             resp := if f.ackbad then 0 else p.opWack ||| (c &&& 0x1F80) }
  else { f with resp := c }

/-- FDEV at the end of a frame: it reacts to the 18 bytes received (R72). A part frame, which the core never sends
(R114), changes nothing (log 15). -/
def fdevEndFrame (p : Params) (f : Fdev) : Fdev :=
  let f' := { f with got := [] }
  if f.got.length = 18 then
    fdevReact p (f.got.getD 0 0 ++ f.got.getD 1 0) (f.got.getD 3 0 ++ f.got.getD 4 0) f'
  else f'

/-- The byte the environment returns at the next `Xchg` (R66). Under FDEV it is the byte of R71 at this place of the
frame; a place past the 18th, which no frame reaches, is a free value (log 15). -/
def nextByte (b : Bus) : Byte :=
  match b.env.dev with
  | some f => (fdevBytes f).getD f.got.length (Config.freeByte b.draws)
  | none => b.env.bytes.headD (Config.freeByte b.draws)

/-- The level the environment returns at the next `ReadDRDY` (R66, R227). FDEV has no data-ready line (log 15). -/
def nextLevel (b : Bus) : Bool := b.env.levels.headD (Config.freeLevel b.draws)

/-- The environment after an `Xchg` that sent `o`. -/
def envAfterXchg (o : Byte) (e : Env) : Env :=
  match e.dev with
  | some f => { e with dev := some { f with got := f.got ++ [o] } }
  | none => { e with bytes := e.bytes.tail }

/-- The environment after `SetCS(active)`: a frame begins, or ends. -/
def envAfterCS (p : Params) (active : Bool) (e : Env) : Env :=
  { e with dev := e.dev.map fun f => if active then { f with got := [] } else fdevEndFrame p f }

end Sys2Proof.Machine
end

