-- ==== Sys2Proof/Machine/Operands.lean ====
section
/-! DEFINITION. Operand forms: packings (30_encoding.md R85 to R91), the sign extender (42_sample_decode.md R140, R141),
the masked merge (41_register_access.md R131) and the scaler's formulas (43_scaling.md R156, R163). -/
namespace Sys2Proof.Machine

/-- The wire word `CMD` sends for a selector (45_system_commands.md R190); a selector above 5 is refused before. -/
def standaloneWord (p : Params) (sel : Byte) : Half :=
  match sel.toNat with
  | 0 => p.opNull
  | 1 => p.opReset
  | 2 => p.opStandby
  | 3 => p.opWakeup
  | 4 => p.opLock
  | _ => p.opUnlock

/-- The register address in a request operand, `A[5:0]` (R126). -/
def addrBits (a : Byte) : Addr := a.setWidth 6

/-- One gain code in its nibble, `L[n][3:0]` (R89). -/
def gainNibble (g : Byte) : Half := (g.setWidth 4).setWidth 16

/-- GAIN packing, channel 0 in the low nibble (R89). -/
def packGain (g : Vector Byte 4) : Half :=
  gainNibble g[0] ||| gainNibble g[1] <<< 4 ||| gainNibble g[2] <<< 8 ||| gainNibble g[3] <<< 12

/-- Global-chop packing: enable in bit 8, delay minus one in bits 15:9 (R90). -/
def packChop (en : Byte) (delay : Half) : Half :=
  ((en.setWidth 1).setWidth 16 <<< 8) ||| (((delay - 1).setWidth 7).setWidth 16 <<< 9)

/-- CLOCK-field packing: a code at a position (R91). -/
def packField (code : Byte) (lsb : Nat) : Half := code.setWidth 16 <<< lsb

/-- The mask of GCHOP: bit 8 and bits 15:9 (R90). -/
def chopMask : Half := 0xFF00#16

/-- Read-modify-write: `(old & ~M) | (D & M)` (R131). -/
def merge (old data mask : Half) : Half := (old &&& ~~~mask) ||| (data &&& mask)

/-- The sign extender on a container: `asr(s32(w), 8)` (R140). -/
def decode32 (w : Cont) : BitVec 32 := w.sshiftRight 8

/-- The sign extender on a bare code (R141). -/
def decode24 (r : Slot) : BitVec 32 := r.signExtend 32

/-- The container of channel `i` is the word of slot `i + 1` (R88). Only indices 0 to 3 get here (R145). -/
def channelWord (rx : Vector Cont 6) (i : Byte) : Cont := rx[i.toNat % 4 + 1]

/-- Lane `j` of `RDCHS`: the decoded channel for `j < N`, else what the lane held (R144). -/
def laneValue (s : State) (l : Vector Byte 4) (n : Byte) (j : Fin 4) : BitVec 32 :=
  if j.val < n.toNat then decode32 (channelWord s.rx l[j]) else s.sample[j]

/-- `scale(code)` in microvolts: multiply, then divide rounding toward zero (R156). -/
def scaleInt (code : Int) (fsUv : BitVec 31) : Int := Int.tdiv (code * fsUv.toNat) fsCodes

/-- `scale` as `VOLT` holds it, 64 bits signed. -/
def scale64 (code : BitVec 32) (fsUv : BitVec 31) : BitVec 64 := BitVec.ofInt 64 (scaleInt code.toInt fsUv)

/-- `gas(v, z, k)`, rounding toward zero (R163). -/
def gasInt (p : Params) (v : Int) : Int := Int.tdiv ((v - p.zUv.toInt) * p.kQ.toInt) (2 ^ p.kFrac)

/-- A value that a 64-bit signed register holds. -/
def fits64 (v : Int) : Bool := -9223372036854775808 ≤ v && v ≤ 9223372036854775807

end Sys2Proof.Machine
end

