-- ==== Sys2Proof/Machine/Flags.lean ====
section
/-! DEFINITION. The status fields (10_state.md R25, R26) and the two compares that decide `OK`
(41_register_access.md R128; 44_config_ops.md R170). -/
namespace Sys2Proof.Machine

/-- The failure classes (60_exceptions.md R206). -/
inductive FailClass where
  | init
  | id
  | ack
  | param
  deriving DecidableEq, Repr

/-- The class's code in `ERR` (R206). -/
def failCode : FailClass → BitVec 3
  | .init => 1
  | .id => 2
  | .ack => 3
  | .param => 4

/-- The operation ends: `BUSY <- 0`, `DONE <- 1`, `OK`, `ERR`, and the sequencer is idle (R26, R212). -/
def endFlags (ok : Bool) (err : BitVec 3) (s : State) : State :=
  { s with ok := ok, err := err, busy := false, done := true, seq := SeqState.idle }

/-- `OK <- 1 ; ERR <- 0` at the end of an operation. -/
def succeed (s : State) : State := endFlags true 0 s

/-- `RX[0][31:16]`, the response (30_encoding.md R87). -/
def response (s : State) : Half := s.rx[0].extractLsb' 16 16

/-- The acknowledgement compare: all 16 bits of the response (R128, R129). -/
def ackMatches (a : Addr) (s : State) : Bool := response s = withAddr s.cfg.opWack a

/-- The identity compare under `ID_MASK` (R170). -/
def idMatches (s : State) : Bool := s.rdata &&& s.cfg.idMask = s.cfg.idExpect &&& s.cfg.idMask

end Sys2Proof.Machine
end

