-- ==== Sys2Proof/Machine/Ops.lean ====
section
/-! DEFINITION. The shared operations: the collaborator primitives (00_scope.md R13), `START` (10_state.md R26),
failure (60_exceptions.md R212), the frame (40_frame_transport.md R111) and the register transactions built on it
(41_register_access.md R126, R128, R131). -/
namespace Sys2Proof.Machine

/-- What a step of this machine answers. -/
abbrev Result := Host.Outcome State Fault Refusal

/-! Failure and START. -/

/-- `fail X` (R212): `OK <- 0`, `ERR <- code(X)`, `BUSY <- 0`, `DONE <- 1`, `SEQ <- (false, 0, 0)`.
Nothing is saved and control goes nowhere. -/
def fail (x : FailClass) (s : State) : State := endFlags false (failCode x) s

/-- `START` with `BUSY = 0` (R26): the request is latched and the flags of the last operation are cleared, which is
all the return from a failure there is (R214). -/
def startPulse (s : State) : State :=
  { s with lat := s.req, busy := true, done := false, ok := false, err := 0, seq := ⟨true, 0, 0⟩ }

/-! The collaborator primitives, on the bus. Every call returns (20_memory.md R67; log 17). -/

/-- `SetCS(active)` (R226). -/
def setCS (p : Params) (active : Bool) (b : Bus) : Bus :=
  { b with cs := active, env := envAfterCS p active b.env, trace := b.trace ++ [.cs active] }

/-- `Xchg(o)` (R225); the byte it returns is `nextByte` of the bus before. -/
def xchg (o : Byte) (b : Bus) : Bus :=
  { b with env := envAfterXchg o b.env, draws := b.draws + 1, trace := b.trace ++ [.x o (nextByte b)] }

/-- `ReadDRDY()` (R227); the level it returns is `nextLevel` of the bus before. -/
def readLevel (b : Bus) : Bus :=
  { b with env := { b.env with levels := b.env.levels.tail }, draws := b.draws + 1,
           trace := b.trace ++ [.dr (nextLevel b)] }

/-- `DRDYV <- ReadDRDY()` (R182). -/
def readDrdy (s : State) : State := { s with drdyv := nextLevel s.bus, bus := readLevel s.bus }

/-- An operation that calls a collaborator: without a valid transport the calls have no meaning
(93_implementation_defined.md U2; log 8). -/
def withTransport (s : State) (k : State → State) : Result :=
  if s.cfg.transportValid then .next (k s) else .refused .transportInvalid

/-! The frame. -/

/-- The container of three received bytes: `b0 ‖ b1 ‖ b2 ‖ 0x00` (R29, R111). -/
def container (b0 b1 b2 : Byte) : Cont := b0 ++ b1 ++ b2 ++ 0#8

/-- The bus after the three exchanges of a slot that sends `tx`, most significant byte first (R52, R111). -/
def slotBus (tx : Slot) (b : Bus) : Bus :=
  xchg (tx.extractLsb' 0 8) (xchg (tx.extractLsb' 8 8) (xchg (tx.extractLsb' 16 8) b))

/-- The container of the three bytes that a slot receives (R111). -/
def slotReceived (tx : Slot) (b : Bus) : Cont :=
  container (nextByte b) (nextByte (xchg (tx.extractLsb' 16 8) b))
    (nextByte (xchg (tx.extractLsb' 8 8) (xchg (tx.extractLsb' 16 8) b)))

/-- The slots of a frame in order: the bus after them and the containers received (R111's loop). -/
def exchangeSlots : List Slot → Bus → List Cont × Bus
  | [], b => ([], b)
  | tx :: txs, b =>
    let r := exchangeSlots txs (slotBus tx b)
    (slotReceived tx b :: r.1, r.2)

/-- What a frame receives: the containers of its six slots. -/
def frameReceived (p : Params) (c d : Half) (b : Bus) : List Cont :=
  (exchangeSlots (txSlots c d) (setCS p true b)).1

/-- The bus after a frame: chip select asserted, the six slots, chip select deasserted (R111). -/
def frameBus (p : Params) (c d : Half) (b : Bus) : Bus :=
  setCS p false (exchangeSlots (txSlots c d) (setCS p true b)).2

/-- The six containers as the register file holds them. -/
def rxOf (ws : List Cont) : Vector Cont 6 :=
  #v[ws.getD 0 0, ws.getD 1 0, ws.getD 2 0, ws.getD 3 0, ws.getD 4 0, ws.getD 5 0]

/-- `Frame(c, d)` (R111): all six `RX[k]` hold words of this frame (R114). -/
def frame (c d : Half) (s : State) : State :=
  { s with rx := rxOf (frameReceived s.cfg c d s.bus), bus := frameBus s.cfg c d s.bus }

/-! Register transactions. -/

/-- The two frames of `DevRead` (R126); the value read is `response` afterwards. -/
def devRead (a : Addr) (s : State) : State :=
  frame s.cfg.opNull 0#16 (frame (withAddr s.cfg.opRead a) 0#16 s)

/-- The two frames of `DevWrite` (R128); its result is `ackMatches` afterwards. -/
def devWrite (a : Addr) (v : Half) (s : State) : State :=
  frame s.cfg.opNull 0#16 (frame (withAddr s.cfg.opWrite a) v s)

/-- The end of a write: `OK` is the acknowledgement compare, else `fail ACK` (R128, R211). -/
def concludeWrite (a : Addr) (s : State) : State :=
  if ackMatches a s then succeed s else fail .ack s

/-- `RDATA <- RX[0][31:16]` (R126). -/
def takeResponse (s : State) : State := { s with rdata := response s }

/-- The end of an identity read: `OK` is the compare, else `fail ID` (44_config_ops.md R170). -/
def concludeId (s : State) : State :=
  if idMatches s then succeed s else fail .id s

/-- Between the read and the write of a masked write: `TMP_OLD`, `RDATA`, `TMP_NEW` (R131). -/
def captureOld (data mask : Half) (s : State) : State :=
  { s with tmpOld := response s, rdata := response s, tmpNew := merge (response s) data mask }

/-- The body of WRMASK (R131), which SETGAIN, GCHOP, SETOSR and SETPWR share (44_config_ops.md R174 to R180). -/
def maskedWrite (a : Addr) (data mask : Half) (s : State) : State :=
  let s := captureOld data mask (devRead a s)
  concludeWrite a (devWrite a s.tmpNew s)

/-- The body of RDID (R170). -/
def identify (s : State) : State := concludeId (takeResponse (devRead 0#6 s))

/-! Results. -/

/-- `SAMPLE[j]` of the lanes in use (42_sample_decode.md R144). -/
def takeLanes (l : Vector Byte 4) (n : Byte) (s : State) : State :=
  { s with sample := #v[laneValue s l n 0, laneValue s l n 1, laneValue s l n 2, laneValue s l n 3] }

/-- `SAMPLE[0] <- v`. -/
def setLane0 (v : BitVec 32) (s : State) : State := { s with sample := s.sample.set 0 v }

/-- `SAMPLE[0] <- decode32(RX[A + 1])` (R146). -/
def takeChannel (i : Byte) (s : State) : State := setLane0 (decode32 (channelWord s.rx i)) s

/-- `VOLT <- scale(code)` (43_scaling.md R156). -/
def takeVolt (code : BitVec 32) (s : State) : State := { s with volt := scale64 code s.cfg.fsUv }

/-- `GAS <- gas(VOLT, Z_UV, K_Q)` (R163); where the exact result fits no 64-bit register the spec states none, and
`GAS` is a free value (log 12). -/
def takeGas (s : State) : State :=
  { s with gas := if fits64 (gasInt s.cfg s.volt.toInt) then BitVec.ofInt 64 (gasInt s.cfg s.volt.toInt)
                  else Config.freeGas s.bus.draws,
           bus := { s.bus with draws := s.bus.draws + 1 } }

end Sys2Proof.Machine
end

