-- ==== Sys2Proof/Machine/ConfigOps.lean ====
section
/-! DEFINITION. RDID, BEGIN, SETGAIN, GCHOP, SETOSR, SETPWR, DRDY (44_config_ops.md R170 to R182). -/
namespace Sys2Proof.Machine

/-- RDID() (R170). -/
def execRdid (s : State) : Result := withTransport s identify

/-- BEGIN() (R172): INIT before any primitive call, then the identity check. -/
def execBegin (s : State) : Result :=
  if s.cfg.transportValid then .next (identify s) else .next (fail .init s)

/-- SETGAIN(g0, g1, g2, g3) (R174). -/
def execSetgain (g : Vector Byte 4) (s : State) : Result :=
  if g[0].toNat > s.cfg.gainMax ∨ g[1].toNat > s.cfg.gainMax ∨ g[2].toNat > s.cfg.gainMax ∨
      g[3].toNat > s.cfg.gainMax then .next (fail .param s)
  else withTransport s fun s => maskedWrite 0x04#6 (packGain g) 0xFFFF#16 s

/-- GCHOP(enable, delay) (R176). -/
def execGchop (en : Byte) (delay : Half) (s : State) : Result :=
  if en.toNat > 1 then .next (fail .param s)
  else if delay.toNat < 1 ∨ delay.toNat > s.cfg.chopDelayMax then .next (fail .param s)
  else withTransport s fun s => maskedWrite 0x06#6 (packChop en delay) chopMask s

/-- SETOSR(code) (R178). -/
def execSetosr (c : Byte) (s : State) : Result :=
  if c.toNat > s.cfg.osrMax then .next (fail .param s)
  else withTransport s fun s => maskedWrite 0x03#6 (packField c s.cfg.osrLsb) s.cfg.osrMask s

/-- SETPWR(code) (R180). -/
def execSetpwr (c : Byte) (s : State) : Result :=
  if c.toNat > s.cfg.pwrMax then .next (fail .param s)
  else withTransport s fun s => maskedWrite 0x03#6 (packField c s.cfg.pwrLsb) s.cfg.pwrMask s

/-- DRDY() (R182); refused on a platform without the line (93_implementation_defined.md U5). -/
def execDrdy (s : State) : Result :=
  if s.cfg.hasDrdy then withTransport s fun s => succeed (readDrdy s) else .refused .drdyAbsent

end Sys2Proof.Machine
end

