-- ==== Sys2Proof/Machine/RegisterAccess.lean ====
section
/-! DEFINITION. RDREG, WRREG, WRMASK (41_register_access.md R126, R128, R131). -/
namespace Sys2Proof.Machine

/-- RDREG(addr) (R126). -/
def execRdreg (a : Byte) (s : State) : Result :=
  if a.toNat > 0x3F then .next (fail .param s)
  else withTransport s fun s => succeed (takeResponse (devRead (addrBits a) s))

/-- WRREG(addr, value) (R128). -/
def execWrreg (a : Byte) (v : Half) (s : State) : Result :=
  if a.toNat > 0x3F then .next (fail .param s)
  else withTransport s fun s => concludeWrite (addrBits a) (devWrite (addrBits a) v s)

/-- WRMASK(addr, data, mask) (R131). -/
def execWrmask (a : Byte) (data mask : Half) (s : State) : Result :=
  if a.toNat > 0x3F then .next (fail .param s)
  else withTransport s fun s => maskedWrite (addrBits a) data mask s

end Sys2Proof.Machine
end

