-- ==== Sys2Proof/Machine/SampleDecode.lean ====
section
/-! DEFINITION. DECODE, RDCHS, RDCH (42_sample_decode.md R142, R144, R146). -/
namespace Sys2Proof.Machine

/-- DECODE(container32) (R142). -/
def execDecode (w : BitVec 32) (s : State) : Result := .next (succeed (setLane0 (decode32 w) s))

/-- Some lane in use asks for a channel above 3 (R144). -/
def badLane (l : Vector Byte 4) (n : Byte) : Bool :=
  (0 < n.toNat && l[0].toNat > 3) || (1 < n.toNat && l[1].toNat > 3) ||
  (2 < n.toNat && l[2].toNat > 3) || (3 < n.toNat && l[3].toNat > 3)

/-- RDCHS([i0, ...], count) (R144). -/
def execRdchs (l : Vector Byte 4) (n : Byte) (s : State) : Result :=
  if n.toNat > 4 then .next (fail .param s)
  else if badLane l n then .next (fail .param s)
  else withTransport s fun s => succeed (takeLanes l n (frame s.cfg.opNull 0#16 s))

/-- RDCH(i) (R146). -/
def execRdch (i : Byte) (s : State) : Result :=
  if i.toNat > 3 then .next (fail .param s)
  else withTransport s fun s => succeed (takeChannel i (frame s.cfg.opNull 0#16 s))

end Sys2Proof.Machine
end

