-- ==== Sys2Proof/Machine/Scaling.lean ====
section
/-! DEFINITION. SCALE, RDVOLT, GASCONV (43_scaling.md R156, R160, R163). -/
namespace Sys2Proof.Machine

/-- SCALE(code) (R156). -/
def execScale (w : BitVec 32) (s : State) : Result :=
  if w.toInt < -8388608 ∨ w.toInt > 8388607 then .next (fail .param s)
  else .next (succeed (takeVolt w s))

/-- RDVOLT(i) (R160). -/
def execRdvolt (i : Byte) (s : State) : Result :=
  if i.toNat > 3 then .next (fail .param s)
  else withTransport s fun s =>
    let s := takeChannel i (frame s.cfg.opNull 0#16 s)
    succeed (takeVolt s.sample[0] s)

/-- GASCONV() (R163). -/
def execGasconv (s : State) : Result := .next (succeed (takeGas s))

end Sys2Proof.Machine
end

