-- ==== Sys2Proof/Machine/Transport.lean ====
section
/-! DEFINITION. XFRAME (40_frame_transport.md R117). -/
namespace Sys2Proof.Machine

/-- XFRAME(cmd16): one frame with any command word, sent unchanged (R117). -/
def execXframe (c : Half) (s : State) : Result := withTransport s fun s => succeed (frame c 0#16 s)

end Sys2Proof.Machine
end

