-- ==== Sys2Proof/Machine/WireCommands.lean ====
section
/-! DEFINITION. The wire words (45_system_commands.md R191 to R199), each the one frame that carries it (log 5),
and CMD (R190). -/
namespace Sys2Proof.Machine

/-- NULL: a frame that requests nothing (R191). -/
def execNull (s : State) : Result := withTransport s fun s => succeed (frame s.cfg.opNull 0#16 s)

/-- RESET: the word is sent; the core clears no register of its own (R192). -/
def execReset (s : State) : Result := withTransport s fun s => succeed (frame s.cfg.opReset 0#16 s)

/-- STANDBY (R193). -/
def execStandby (s : State) : Result := withTransport s fun s => succeed (frame s.cfg.opStandby 0#16 s)

/-- WAKEUP (R194). -/
def execWakeup (s : State) : Result := withTransport s fun s => succeed (frame s.cfg.opWakeup 0#16 s)

/-- LOCK: the core keeps no lock flag (R195). -/
def execLock (s : State) : Result := withTransport s fun s => succeed (frame s.cfg.opLock 0#16 s)

/-- UNLOCK (R196). -/
def execUnlock (s : State) : Result := withTransport s fun s => succeed (frame s.cfg.opUnlock 0#16 s)

/-- READ(addr), frame 1 of `DevRead` (R197). -/
def execRead (a : Addr) (s : State) : Result :=
  withTransport s fun s => succeed (frame (withAddr s.cfg.opRead a) 0#16 s)

/-- WRITE(addr) with its data word in slot 1, frame 1 of `DevWrite` (R198). -/
def execWrite (a : Addr) (v : Half) (s : State) : Result :=
  withTransport s fun s => succeed (frame (withAddr s.cfg.opWrite a) v s)

/-- WACK(addr), never sent: the NULL frame whose slot 0 brings it, and the compare (R199, R128; log 6). -/
def execWack (a : Addr) (s : State) : Result :=
  withTransport s fun s => concludeWrite a (frame s.cfg.opNull 0#16 s)

/-- CMD(sel) (R190). -/
def execCmd (sel : Byte) (s : State) : Result :=
  if sel.toNat > 5 then .next (fail .param s)
  else withTransport s fun s => succeed (frame (standaloneWord s.cfg sel) 0#16 s)

end Sys2Proof.Machine
end

