-- ==== Sys2Proof/Machine/Dispatch.lean ====
section
/-! DEFINITION. One arm per instruction. -/
namespace Sys2Proof.Machine

def exec (i : Instr) (s : State) : Host.Outcome State Fault Refusal :=
  match i with
  | .null => Sys2Proof.Machine.execNull s
  | .reset => Sys2Proof.Machine.execReset s
  | .standby => Sys2Proof.Machine.execStandby s
  | .wakeup => Sys2Proof.Machine.execWakeup s
  | .lock => Sys2Proof.Machine.execLock s
  | .unlock => Sys2Proof.Machine.execUnlock s
  | .read a => Sys2Proof.Machine.execRead a s
  | .write a v => Sys2Proof.Machine.execWrite a v s
  | .wack a => Sys2Proof.Machine.execWack a s
  | .xframe c => Sys2Proof.Machine.execXframe c s
  | .cmd sel => Sys2Proof.Machine.execCmd sel s
  | .rdreg a => Sys2Proof.Machine.execRdreg a s
  | .wrreg a v => Sys2Proof.Machine.execWrreg a v s
  | .wrmask a v m => Sys2Proof.Machine.execWrmask a v m s
  | .rdchs l n => Sys2Proof.Machine.execRdchs l n s
  | .rdch c => Sys2Proof.Machine.execRdch c s
  | .rdvolt c => Sys2Proof.Machine.execRdvolt c s
  | .drdy => Sys2Proof.Machine.execDrdy s
  | .rdid => Sys2Proof.Machine.execRdid s
  | .begin => Sys2Proof.Machine.execBegin s
  | .setgain g => Sys2Proof.Machine.execSetgain g s
  | .gchop en v => Sys2Proof.Machine.execGchop en v s
  | .setosr c => Sys2Proof.Machine.execSetosr c s
  | .setpwr c => Sys2Proof.Machine.execSetpwr c s
  | .decode w => Sys2Proof.Machine.execDecode w s
  | .scale w => Sys2Proof.Machine.execScale w s
  | .gasconv => Sys2Proof.Machine.execGasconv s

end Sys2Proof.Machine
end

