-- ==== Sys2Proof/Machine/Sequencer.lean ====
section
/-! DEFINITION. The sequencer, one primitive call a step (10_state.md R27 to R32; 40_frame_transport.md R112, R113). -/
namespace Sys2Proof.Machine

/-- `frames(op)`, the table of R32; a wire word alone is one frame. -/
def framesOf : Instr → Nat
  | .null | .reset | .standby | .wakeup | .lock | .unlock => 1
  | .read _ | .write _ _ | .wack _ => 1
  | .xframe _ | .cmd _ => 1
  | .rdreg _ | .wrreg _ _ => 2
  | .wrmask _ _ _ => 4
  | .rdchs _ _ | .rdch _ | .rdvolt _ => 1
  | .drdy => 0
  | .rdid | .begin => 2
  | .setgain _ | .gchop _ _ | .setosr _ | .setpwr _ => 4
  | .decode _ | .scale _ | .gasconv => 0

/-- The primitive calls of an operation that passes its checks: 20 a frame (R113), one for DRDY (R32). -/
def callsOf : Instr → Nat
  | .drdy => 1
  | i => 20 * framesOf i

/-- Address, data and mask of the operations whose body is WRMASK's (R131; 44_config_ops.md R174 to R180). -/
def maskedArgs (p : Params) : Instr → Option (Addr × Half × Half)
  | .wrmask a v m => some (addrBits a, v, m)
  | .setgain g => some (0x04#6, packGain g, 0xFFFF#16)
  | .gchop en v => some (0x06#6, packChop en v, chopMask)
  | .setosr c => some (0x03#6, packField c p.osrLsb, p.osrMask)
  | .setpwr c => some (0x03#6, packField c p.pwrLsb, p.pwrMask)
  | _ => none

/-- The transmit words of frame `fr` of a masked write: READ, NULL, WRITE with `TMP_NEW`, NULL (R131). -/
def maskedTx (p : Params) (a : Addr) (new : Half) (fr : Fin 4) : Half × Half :=
  if fr = 0 then (withAddr p.opRead a, 0#16)
  else if fr = 2 then (withAddr p.opWrite a, new)
  else (p.opNull, 0#16)

/-- The transmit words `(c, d)` of frame `fr` of an operation (R112, and each operation's rule). -/
def txWords (p : Params) (i : Instr) (new : Half) (fr : Fin 4) : Half × Half :=
  match i with
  | .null => (p.opNull, 0#16)
  | .reset => (p.opReset, 0#16)
  | .standby => (p.opStandby, 0#16)
  | .wakeup => (p.opWakeup, 0#16)
  | .lock => (p.opLock, 0#16)
  | .unlock => (p.opUnlock, 0#16)
  | .read a => (withAddr p.opRead a, 0#16)
  | .write a v => (withAddr p.opWrite a, v)
  | .wack _ => (p.opNull, 0#16)
  | .xframe c => (c, 0#16)
  | .cmd sel => (standaloneWord p sel, 0#16)
  | .rdreg a => if fr = 0 then (withAddr p.opRead (addrBits a), 0#16) else (p.opNull, 0#16)
  | .wrreg a v => if fr = 0 then (withAddr p.opWrite (addrBits a), v) else (p.opNull, 0#16)
  | .rdid | .begin => if fr = 0 then (withAddr p.opRead 0#6, 0#16) else (p.opNull, 0#16)
  | .wrmask a _ _ => maskedTx p (addrBits a) new fr
  | .setgain _ => maskedTx p 0x04#6 new fr
  | .gchop _ _ => maskedTx p 0x06#6 new fr
  | .setosr _ | .setpwr _ => maskedTx p 0x03#6 new fr
  | .rdchs _ _ | .rdch _ | .rdvolt _ => (p.opNull, 0#16)
  | .drdy | .decode _ | .scale _ | .gasconv => (p.opNull, 0#16)

/-- `txbyte(b)` of R112. -/
def txByte (c d : Half) (b : Nat) : Byte :=
  match b with
  | 0 => c.extractLsb' 8 8
  | 1 => c.extractLsb' 0 8
  | 3 => d.extractLsb' 8 8
  | 4 => d.extractLsb' 0 8
  | _ => 0

/-- A container after byte `n` of its slot (R29): the first byte clears the rest. -/
def putByte (n : Nat) (i : Byte) (w : Cont) : Cont :=
  match n with
  | 0 => i ++ 0#24
  | 1 => w.extractLsb' 24 8 ++ i ++ w.extractLsb' 0 16
  | _ => w.extractLsb' 16 16 ++ i ++ w.extractLsb' 0 8

/-- `RX` after byte `b` of a frame (R29): slot `b div 3`, byte `b mod 3`. -/
def storeByte (b : Nat) (i : Byte) (rx : Vector Cont 6) : Vector Cont 6 :=
  if h : b / 3 < 6 then rx.set (b / 3) (putByte (b % 3) i rx[b / 3]) else rx

/-- What an operation computes when its last frame is done (its own rule, after the last `Frame`). -/
def conclude (i : Instr) (s : State) : State :=
  match i with
  | .null | .reset | .standby | .wakeup | .lock | .unlock => succeed s
  | .read _ | .write _ _ => succeed s
  | .wack a => concludeWrite a s
  | .xframe _ | .cmd _ => succeed s
  | .rdreg _ => succeed (takeResponse s)
  | .wrreg a _ => concludeWrite (addrBits a) s
  | .wrmask a _ _ => concludeWrite (addrBits a) s
  | .setgain _ => concludeWrite 0x04#6 s
  | .gchop _ _ => concludeWrite 0x06#6 s
  | .setosr _ | .setpwr _ => concludeWrite 0x03#6 s
  | .rdchs l n => succeed (takeLanes l n s)
  | .rdch c => succeed (takeChannel c s)
  | .rdvolt c => succeed (takeVolt (takeChannel c s).sample[0] (takeChannel c s))
  | .rdid | .begin => concludeId (takeResponse s)
  | .drdy | .decode _ | .scale _ | .gasconv => succeed s

/-- After frame 2 of a masked write the old value is captured and merged. R131 orders it between frames 2 and 3 and R28 lists
it at no position: DESIGN CHOICE, it is part of the step that ends frame 2, the `SetCS(false)` at `fr = 1`, `pos = 19`
(log 22). -/
def betweenFrames (i : Instr) (fr : Fin 4) (s : State) : State :=
  match maskedArgs s.cfg i with
  | some (_, v, m) => if fr = 1 then captureOld v m s else s
  | none => s

/-- One primitive call of the running operation `i` and the advance of `SEQ` (R28). DRDY has no frame, and R27 and R28
name no position for its `ReadDRDY`: DESIGN CHOICE, the call is made where `SEQ` stands after `START`, at
`(true, 0, 0)`, and the operation ends in that step (log 20). A sequencer past the operation's
last frame, which no run reaches, ends the operation (log 18). -/
def tickOf (i : Instr) (s : State) : State :=
  if i = .drdy then succeed (readDrdy s)
  else
    let pos := s.seq.pos
    let fr := s.seq.fr
    if pos = 0 then { s with bus := setCS s.cfg true s.bus, seq := ⟨true, fr, 1⟩ }
    else if pos = 19 then
      let s := { s with bus := setCS s.cfg false s.bus }
      if framesOf i ≤ fr.val + 1 then conclude i s
      else betweenFrames i fr { s with seq := ⟨true, fr + 1, 0⟩ }
    else
      let b := pos.val - 1
      let w := txWords s.cfg i s.tmpNew fr
      { s with bus := xchg (txByte w.1 w.2 b) s.bus, rx := storeByte b (nextByte s.bus) s.rx,
               seq := ⟨true, fr, pos + 1⟩ }

/-- One step of the running core: a primitive call of the operation that `LAT` names (R28). -/
def tick (s : State) : Result :=
  match decodeRequest s.lat with
  | .ok i => if i = .drdy ∧ ¬ s.cfg.hasDrdy then .refused .drdyAbsent else withTransport s (tickOf i)
  | .error _ => .next (fail .param s)

/-- An operation that makes primitive calls, and so runs on after `START`. -/
def hasCalls (i : Instr) : Bool := 0 < callsOf i

/-- What `START` does beside latching (R26, R210, R215): the checks in R215's order; an operation that makes no
primitive call ends in the same step (log 4), every other one runs on from `pos = 0`. -/
def beginOp (s : State) : Result :=
  match decodeRequest s.lat with
  | .error _ => .next (fail .param s)
  | .ok i =>
    if i = .begin ∧ ¬ s.cfg.transportValid then .next (fail .init s)
    else if i.wellFormed s.cfg then
      if hasCalls i then .next s else exec i s
    else .next (fail .param s)

/-- `n` steps of the running core. -/
def ticks : Nat → State → Result
  | 0, s => .next s
  | n + 1, s =>
    match tick s with
    | .next t => ticks n t
    | .fault f => .fault f
    | .refused r => .refused r

end Sys2Proof.Machine
end

