-- ==== Sys2Proof/Machine/HostPort.lean ====
section
/-! DEFINITION. The host's side: request writes (10_state.md R21, R22), `START` (R26), reset (70_reset_and_hazards.md
R240, R241), configuration inputs (R245), register reads (R24; U6), and the fetch of the next request. -/
namespace Sys2Proof.Machine

/-- A host write of one request register (R21). -/
def applyWrite (w : ReqWrite) (r : Request) : Request :=
  match w with
  | .op v => { r with op := v }
  | .a v => { r with a := v }
  | .d v => { r with d := v }
  | .m v => { r with m := v }
  | .w v => { r with w := v }
  | .l j v => { r with l := r.l.set j v }
  | .n v => { r with n := v }

/-- A blocking call (R26): the latched request is decoded and run; a reserved `OP` ends at once with PARAM
(30_encoding.md R98). -/
def runRequest (s : State) : Result :=
  match decodeRequest s.lat with
  | .ok i => exec i s
  | .error _ => .next (fail .param s)

/-- The frame of a wire word: decoded and run; a word of no row is sent as given (93_implementation_defined.md U3; log 5).
DESIGN CHOICE: so is a word of a row other than WRITE's, WACK's included, whose data word is not zero (`strayData`), and its
data word with it (log 23). -/
def runWire (c d : Half) (s : State) : Result :=
  match decodeWire s.cfg c d with
  | .ok i => exec i s
  | .error _ => withTransport s fun s => succeed (frame c d s)

/-- Reset of the idle core (R240, R241): the core's registers as R35 says, the surroundings as they are
(log 19). -/
def coreReset (s : State) : State := State.afterReset s.cfg s.bus.env s.host s.bus.draws

/-- A step of the machine while an operation runs: the host may write `REQ` (R22) or wait; the core makes one call. -/
def stepBusy (s : State) : Result :=
  match s.host with
  | [] => tick s
  | .await :: _ => tick s
  | .yield :: h => tick { s with host := h }
  | .write w :: h => .next { s with req := applyWrite w s.req, host := h }
  | .start :: _ => .refused .startWhileBusy
  | .call _ :: _ => .refused .startWhileBusy
  | .wire _ _ :: _ => .refused .startWhileBusy
  | .configure _ :: _ => .refused .configureWhileBusy
  | .reset :: _ => .refused .resetWhileBusy

/-- A step of the idle machine: what the host does next; with nothing to do the core stays as it is. -/
def stepIdle (s : State) : Result :=
  match s.host with
  | [] => .next s
  | .await :: h => .next { s with host := h }
  | .yield :: h => .next { s with host := h }
  | .write w :: h => .next { s with req := applyWrite w s.req, host := h }
  | .start :: h => beginOp (startPulse { s with host := h })
  | .call r :: h => runRequest (startPulse { s with host := h, req := r })
  | .wire c d :: h => runWire c d { s with host := h }
  | .configure p :: h => .next { s with cfg := p, host := h }
  | .reset :: h => .next (coreReset { s with host := h })

/-- Place an encoding where the idle machine takes its next request from. -/
def placeFetch (e : Option Encoding) (s : State) : State :=
  { s with seq := SeqState.idle, busy := false,
           host := (match e with
             | some (.request r) => [.call r]
             | some (.frame c d) => [.wire c d]
             | none => []) ++ s.host }

/-! Host reads (R21, R24, R25). `TMP_OLD`, `TMP_NEW` and `SEQ` are not host-visible (R27, R30). -/

/-- The host-readable registers. -/
inductive HostReg where
  | reqOp
  | reqA
  | reqD
  | reqM
  | reqW
  | reqL (j : Fin 4)
  | reqN
  | rx (k : Fin 6)
  | rdata
  | sample (j : Fin 4)
  | volt
  | gas
  | drdyv
  | busy
  | done
  | ok
  | err
  deriving DecidableEq, Repr

/-- The registers U6 is about ("`RX[k]` or any result register"), with an index for the free value. -/
def resultIndex : HostReg → Option Nat
  | .rx k => some k.val
  | .rdata => some 6
  | .sample j => some (7 + j.val)
  | .volt => some 11
  | .gas => some 12
  | .drdyv => some 13
  | .reqOp | .reqA | .reqD | .reqM | .reqW | .reqL _ | .reqN => none
  | .busy | .done | .ok | .err => none

/-- A register's content, zero-extended. -/
def regContent (s : State) : HostReg → BitVec 64
  | .reqOp => s.req.op.setWidth 64
  | .reqA => s.req.a.setWidth 64
  | .reqD => s.req.d.setWidth 64
  | .reqM => s.req.m.setWidth 64
  | .reqW => s.req.w.setWidth 64
  | .reqL j => s.req.l[j].setWidth 64
  | .reqN => s.req.n.setWidth 64
  | .rx k => s.rx[k].setWidth 64
  | .rdata => s.rdata.setWidth 64
  | .sample j => s.sample[j].setWidth 64
  | .volt => s.volt
  | .gas => s.gas
  | .drdyv => (BitVec.ofBool s.drdyv).setWidth 64
  | .busy => (BitVec.ofBool s.busy).setWidth 64
  | .done => (BitVec.ofBool s.done).setWidth 64
  | .ok => (BitVec.ofBool s.ok).setWidth 64
  | .err => s.err.setWidth 64

/-- What a host read returns: the content, but any value for a result register while `BUSY = 1` (U6; log 11). -/
def hostRead (r : HostReg) (s : State) : BitVec 64 :=
  match resultIndex r with
  | some k => if s.busy then Config.freeRead s.bus.draws k else regContent s r
  | none => regContent s r

/-- The host-side idiom DRDYSTAT after `RDREG(0x01)`: `RDATA & DRDY_STAT_MASK` (44_config_ops.md R183). -/
def drdyStat (s : State) : Half := s.rdata &&& s.cfg.drdyStatMask

end Sys2Proof.Machine
end

