-- ==== Sys2Proof/Machine/Step.lean ====
section
/-! DEFINITION. One step of the machine. -/
namespace Sys2Proof.Machine

/-- One step: the running core makes a primitive call, the idle core takes the host's next request (10_state.md R26, R28). -/
def step (s : State) : Host.Outcome State Fault Refusal :=
  if s.seq.run then stepBusy s else stepIdle s

/-- `s` with a table word placed where the next step takes its request from (logs 4, 16). -/
def State.withFetchWord (s : State) (nbits w : Nat) : State := placeFetch (tableEncoding nbits w) s

end Sys2Proof.Machine
end

