-- ==== Sys2Proof/Safety.lean ====
section
/-! DEFINITION. The terms claims are stated in: what a frame puts on the bus, how an operation ends, what it leaves
alone, and the invariants of the running machine. -/
namespace Sys2Proof.Machine

/-! What goes over the bus. -/

/-- The events of a frame that sends `c` and `d` and receives the bytes `is` (R111). -/
def frameEvents (c d : Half) (is : List Byte) : List Event :=
  [.cs true] ++ List.zipWith .x (frameBytes c d) is ++ [.cs false]

/-- Byte `b` of a list of received bytes. -/
def byteAt (is : List Byte) (b : Nat) : Byte := is.getD b 0

/-- The container of slot `k` of the received bytes: bytes `3k`, `3k+1`, `3k+2` (20_memory.md R52; R29). -/
def slotWord (is : List Byte) (k : Nat) : Cont :=
  container (byteAt is (3 * k)) (byteAt is (3 * k + 1)) (byteAt is (3 * k + 2))

/-- The six containers of the 18 received bytes. -/
def packFrame (is : List Byte) : Vector Cont 6 :=
  #v[slotWord is 0, slotWord is 1, slotWord is 2, slotWord is 3, slotWord is 4, slotWord is 5]

/-- The 16-bit response in the received bytes: the first two. -/
def respOf (is : List Byte) : Half := byteAt is 0 ++ byteAt is 1

/-- The raw 24-bit code of channel `i` in the received bytes: slot `i + 1` (30_encoding.md R83, R88). -/
def codeOf (is : List Byte) (i : Nat) : Slot :=
  byteAt is (3 * i + 3) ++ byteAt is (3 * i + 4) ++ byteAt is (3 * i + 5)

/-! What a request says. -/

/-- `r` with the operand registers that its operation reads by the table of 30_encoding.md R96, and the others zero.
Of RDCHS's lanes all four are kept; those from `N` on are ignored by its meaning. -/
def operandsOf (r : Request) : Request :=
  match r.op.toNat with
  | 0x00 => { Request.ofOp r.op with d := r.d }
  | 0x01 | 0x02 | 0x06 | 0x07 | 0x0D | 0x0E => { Request.ofOp r.op with a := r.a }
  | 0x03 | 0x0C => { Request.ofOp r.op with a := r.a, d := r.d }
  | 0x04 => { Request.ofOp r.op with a := r.a, d := r.d, m := r.m }
  | 0x05 => { Request.ofOp r.op with l := r.l, n := r.n }
  | 0x0B => { Request.ofOp r.op with l := r.l }
  | 0x0F | 0x10 => { Request.ofOp r.op with w := r.w }
  | _ => Request.ofOp r.op

/-! How an operation ends. -/

/-- The core is idle again with the operation done (R26). -/
abbrev ended (t : State) : Prop := t.busy = false ∧ t.done = true ∧ t.seq = SeqState.idle

/-- `OK = 1`, `ERR = 0`. -/
abbrev endedOk (t : State) : Prop := ended t ∧ t.ok = true ∧ t.err = 0

/-- `OK = 0` and the class's code (R206, R212). -/
abbrev endedFail (x : FailClass) (t : State) : Prop := ended t ∧ t.ok = false ∧ t.err = failCode x

/-! What an operation leaves alone. -/

/-- Request registers, latch, configuration inputs and the host's list. -/
abbrev sameInputs (s t : State) : Prop := t.req = s.req ∧ t.lat = s.lat ∧ t.cfg = s.cfg ∧ t.host = s.host

/-- The temporaries of a masked write. -/
abbrev sameTemps (s t : State) : Prop := t.tmpOld = s.tmpOld ∧ t.tmpNew = s.tmpNew

/-- Every result register but `RDATA`. -/
abbrev sameSamples (s t : State) : Prop :=
  t.sample = s.sample ∧ t.volt = s.volt ∧ t.gas = s.gas ∧ t.drdyv = s.drdyv

/-- `RX`, `CS`, the trace and the environment: no primitive call was made. -/
abbrev noBus (s t : State) : Prop :=
  t.rx = s.rx ∧ t.bus.cs = s.bus.cs ∧ t.bus.trace = s.bus.trace ∧ t.bus.env = s.bus.env

/-- Everything but the status fields and `SEQ`. -/
abbrev onlyFlags (s t : State) : Prop :=
  sameInputs s t ∧ sameTemps s t ∧ t.rdata = s.rdata ∧ sameSamples s t ∧ noBus s t ∧ t.bus.draws = s.bus.draws

/-- `t` follows `s` by one frame that sent `c`, `d` and received `is`. -/
abbrev oneFrame (c d : Half) (is : List Byte) (s t : State) : Prop :=
  is.length = 18 ∧ t.bus.trace = s.bus.trace ++ frameEvents c d is ∧ t.rx = packFrame is ∧ t.bus.cs = false

/-- `t` follows `s` by two frames, the second a NULL frame. -/
abbrev twoFrames (c d : Half) (is1 is2 : List Byte) (s t : State) : Prop :=
  is1.length = 18 ∧ is2.length = 18 ∧
  t.bus.trace = s.bus.trace ++ frameEvents c d is1 ++ frameEvents s.cfg.opNull 0#16 is2 ∧ t.rx = packFrame is2 ∧ t.bus.cs = false

/-- What a masked write of `data` under `mask` to address `a` does (41_register_access.md R131): READ and NULL, the old
value into `TMP_OLD` and `RDATA`, the merge into `TMP_NEW`, WRITE with it and NULL, and the acknowledgement compare. -/
def maskedWriteDone (a : Addr) (data mask : Half) (s t : State) : Prop :=
  ∃ is1 is2 is3 is4 : List Byte,
    is1.length = 18 ∧ is2.length = 18 ∧ is3.length = 18 ∧ is4.length = 18 ∧
    t.tmpOld = respOf is2 ∧ t.rdata = respOf is2 ∧
    t.tmpNew = (respOf is2 &&& ~~~mask) ||| (data &&& mask) ∧
    t.bus.trace = s.bus.trace ++ frameEvents (withAddr s.cfg.opRead a) 0#16 is1 ++ frameEvents s.cfg.opNull 0#16 is2 ++
      frameEvents (withAddr s.cfg.opWrite a) t.tmpNew is3 ++ frameEvents s.cfg.opNull 0#16 is4 ∧
    t.rx = packFrame is4 ∧ t.bus.cs = false ∧
    (respOf is4 = withAddr s.cfg.opWack a → endedOk t) ∧
    (respOf is4 ≠ withAddr s.cfg.opWack a → endedFail .ack t) ∧
    sameInputs s t ∧ sameSamples s t

/-- `i` runs as one frame that sends `c`, `d`, with `OK = 1`, and writes nothing but `RX` and the status fields. -/
def sendsOneFrame (i : Instr) (c d : Half) (s : State) : Prop :=
  ∃ (t : State) (is : List Byte), exec i s = .next t ∧ oneFrame c d is s t ∧ endedOk t ∧
    sameInputs s t ∧ sameTemps s t ∧ t.rdata = s.rdata ∧ sameSamples s t

/-- `i` ends with PARAM and nothing else has changed (60_exceptions.md R210, R213). -/
def failsParam (i : Instr) (s : State) : Prop :=
  ∃ t : State, exec i s = .next t ∧ endedFail .param t ∧ onlyFlags s t

/-- `i` runs as the masked write of `data` under `mask` to address `a`. -/
def runsMaskedWrite (i : Instr) (a : Addr) (data mask : Half) (s : State) : Prop :=
  ∃ t : State, exec i s = .next t ∧ maskedWriteDone a data mask s t

/-- `i` reads register 0x00 and compares it under `ID_MASK` (44_config_ops.md R170). -/
def identifies (i : Instr) (s : State) : Prop :=
  ∃ (t : State) (is1 is2 : List Byte), exec i s = .next t ∧
    twoFrames (withAddr s.cfg.opRead 0#6) 0#16 is1 is2 s t ∧ t.rdata = respOf is2 ∧
    (respOf is2 &&& s.cfg.idMask = s.cfg.idExpect &&& s.cfg.idMask → endedOk t) ∧
    (respOf is2 &&& s.cfg.idMask ≠ s.cfg.idExpect &&& s.cfg.idMask → endedFail .id t) ∧
    sameInputs s t ∧ sameTemps s t ∧ sameSamples s t

/-! The bus discipline: what a trace may look like. -/

/-- Where the bus stands: between frames, or in a frame with some bytes exchanged. -/
inductive BusPhase where
  | free
  | inFrame (n : Nat)
  deriving DecidableEq, Repr

/-- How an event moves the bus; `none` where the event may not come (R61, R114, R225 to R227). -/
def busEvent : BusPhase → Event → Option BusPhase
  | .free, .cs true => some (.inFrame 0)
  | .free, .dr _ => some .free
  | .inFrame n, .x _ _ => if n < 18 then some (.inFrame (n + 1)) else none
  | .inFrame n, .cs false => if n = 18 then some .free else none
  | _, _ => none

/-- Where a trace leaves the bus, `none` if an event came where it may not. -/
def busAfter : BusPhase → List Event → Option BusPhase
  | ph, [] => some ph
  | ph, e :: es =>
    match busEvent ph e with
    | some ph' => busAfter ph' es
    | none => none

/-- Where the sequencer says the bus stands (10_state.md R27, R31). -/
def phaseOf (pos : Fin 20) : BusPhase := if pos = 0 then .free else .inFrame (pos.val - 1)

/-! Invariants. -/

/-- The handshake (R25, R26, R27, R31). -/
structure Handshake (s : State) : Prop where
  /-- `BUSY` says whether the sequencer runs. -/
  busy_run : s.busy = s.seq.run
  /-- An idle sequencer is `(false, 0, 0)`. -/
  idle_zero : s.seq.run = false → s.seq = SeqState.idle
  /-- `CS` is 1 exactly inside a frame. -/
  cs_pos : s.bus.cs = decide (s.seq.pos ≠ 0)
  /-- While an operation runs its predecessor's outcome is cleared. -/
  run_clear : s.seq.run = true → s.done = false ∧ s.ok = false ∧ s.err = 0
  /-- `OK` and a failure code exclude each other, and either only with `DONE`. -/
  done_outcome : s.done = true → (s.ok = true ↔ s.err = 0)
  undone_clear : s.done = false → s.ok = false ∧ s.err = 0
  /-- `ERR` holds a code of R206. -/
  err_code : s.err.toNat ≤ 4

/-- A running sequencer runs a well-formed operation with a frame of its own still to do (R26, R27, R209). -/
def RunsOperation (s : State) : Prop :=
  s.seq.run = true → ∃ i, decodeRequest s.lat = .ok i ∧ i.wellFormed s.cfg = true ∧
    ((i = .drdy ∧ s.seq.fr = 0 ∧ s.seq.pos = 0) ∨ s.seq.fr.val < framesOf i)

/-- The trace is whole frames and data-ready reads, and an open frame stands where `SEQ` says. -/
def BusDiscipline (s : State) : Prop := busAfter .free s.bus.trace = some (phaseOf s.seq.pos)

/-- What every step keeps. -/
structure State.Inv (s : State) : Prop where
  handshake : Handshake s
  runs : RunsOperation s
  bus : BusDiscipline s

/-- Every received container has a zero low byte (R24, R114). -/
def Containers (s : State) : Prop := ∀ k : Fin 6, s.rx[k].extractLsb' 0 8 = 0

/-- A sample in the 24-bit range (R23, R140). -/
def inRange24 (v : BitVec 32) : Prop := -8388608 ≤ v.toInt ∧ v.toInt ≤ 8388607

end Sys2Proof.Machine
end

