-- ==== Sys2Proof/Certificates/Slice0/Obligations.lean ====
section
/-! DEFINITION. The statements for the provers. Each docstring names the rule of spec/ it formalises. -/
open Sys2Proof Sys2Proof.Machine

/-! Encodings. -/

/-- The six standalone words of the table of 30_encoding.md R92, a word of each of its addressed rows, and `OP` values of
R95 decode to the instructions they stand for. The numbers are the spec's defaults (log 7). That an `OP` alone has zero
operands and a wire word alone zero data is the model's choice (log 16), and so is that 0xA001, with a reserved low bit set,
is no READ (R92's mask over R93's test, log 21). -/
def Obligations.TableWordsDecode : Prop :=
  decodeTableWord 16 0b0000000000000000 = some .null ∧
  decodeTableWord 16 0b0000000000010001 = some .reset ∧
  decodeTableWord 16 0b0000000000100010 = some .standby ∧
  decodeTableWord 16 0b0000000000110011 = some .wakeup ∧
  decodeTableWord 16 0b0000010101010101 = some .lock ∧
  decodeTableWord 16 0b0000011001010101 = some .unlock ∧
  decodeTableWord 16 0b1011111100000000 = some (.read 0x3E) ∧
  decodeTableWord 16 0b0110001000000000 = some (.write 0x04 0) ∧
  decodeTableWord 16 0b0100000110000000 = some (.wack 0x03) ∧
  decodeTableWord 16 0b1010000000000001 = none ∧
  decodeTableWord 8 0b00010 = some (.rdreg 0) ∧
  decodeTableWord 8 0b01000 = some .drdy ∧
  decodeTableWord 8 0b10001 = some .gasconv ∧
  decodeTableWord 8 0b10010 = none

/-- Decode of encode is the instruction, for every instruction and operand. The choice of wire words meets `Params.wireOk`,
which asks more than R92 lists: no standalone word in READ's or WRITE's row (log 7). For WACK alone the acknowledgement has a
row of its own; where it is WRITE's, the other reading of R129, a WACK word reads as WRITE with a zero data word, which the
model deduces from R93's order (log 7). -/
def Obligations.DecodeOfEncodeIsTheInstruction : Prop :=
  (∀ (p : Params) (i : Instr), p.wireOk → (∀ a : Addr, i = .wack a → p.wackDistinct) → decode p (encode p i) = .ok i) ∧
  (∀ (p : Params) (a : Addr), p.wireOk → p.opWack = p.opWrite → decode p (encode p (.wack a)) = .ok (.write a 0))

/-- A frame that decodes to a wire instruction is that instruction's encoding: no other bits stand for it, by R92's masks, and
by R83 for the zero data word. That the decoder takes R92's mask, where R93 tests bits 15:13 of READ and WRITE alone, is
the model's choice (log 21). -/
def Obligations.DecodedFrameIsTheEncoding : Prop :=
  ∀ (p : Params) (c d : Half) (i : Instr), p.wireOk → decodeWire p c d = .ok i → encode p i = .frame c d

/-- A request is rejected exactly for `OP` 0x12 to 0x1F, and for no other reason (R98); otherwise it decodes to the operation whose encoding has its
`OP` and its values of the operand registers that R96 lists for it, and every other operand register is ignored. -/
def Obligations.RequestDecodesByItsOp : Prop :=
  (∀ (r : Request) (e : Reject), decodeRequest r = .error e ↔ 0x12 ≤ r.op.toNat ∧ e = .reservedOp r.op) ∧
  (∀ (p : Params) (r : Request) (i : Instr), decodeRequest r = .ok i → encode p i = .request (operandsOf r)) ∧
  (∀ r : Request, decodeRequest r = decodeRequest (operandsOf r))

/-- The transmit byte function of 40_frame_transport.md R112, byte by byte, and the 18 bytes of a frame. -/
def Obligations.TransmitByteByPosition : Prop :=
  ∀ c d : Half,
    txByte c d 0 = c.extractLsb' 8 8 ∧ txByte c d 1 = c.extractLsb' 0 8 ∧
    txByte c d 3 = d.extractLsb' 8 8 ∧ txByte c d 4 = d.extractLsb' 0 8 ∧
    (∀ b : Nat, b ≠ 0 → b ≠ 1 → b ≠ 3 → b ≠ 4 → txByte c d b = 0) ∧
    frameBytes c d = (List.range 18).map (txByte c d)

/-- Reading the 18 transmitted bytes back gives what the two words decode to; other lengths and stray bytes are
rejected (R83, R99, R112). -/
def Obligations.FrameBytesDecode : Prop :=
  (∀ (p : Params) (c d : Half), decodeBytes p (frameBytes c d) = decodeWire p c d) ∧
  (∀ (p : Params) (bs : List Byte) (i : Instr), decodeBytes p bs = .ok i →
    ∃ c d : Half, bs = frameBytes c d ∧ decodeWire p c d = .ok i)

/-- The address field: `OP | (zext_16(A) << 7)` keeps the opcode bits, holds the address in bits 12:7 and leaves bits 6:0
zero, when `OP` has zeros in bits 12:0 (R80, R85). -/
def Obligations.AddressFieldOfCommandWord : Prop :=
  ∀ (op : Half) (a : Addr), op &&& 0x1FFF = 0 →
    (withAddr op a).extractLsb' 13 3 = op.extractLsb' 13 3 ∧
    (withAddr op a).extractLsb' 7 6 = a ∧
    (withAddr op a).extractLsb' 0 7 = 0

/-! Fetch and START. -/

/-- A blocking call runs the request it decodes to: `step` is `exec` after the host's write of `REQ` and `START` (R26). That
a blocking call is one step is the model's choice (log 4). -/
def Obligations.StepRunsDecodedRequest : Prop :=
  ∀ (s : State) (r : Request) (h : List HostAction) (i : Instr),
    s.seq.run = false → s.host = .call r :: h → decodeRequest r = .ok i →
    step s = exec i { s with host := h, req := r, lat := r, busy := true, done := false, ok := false, err := 0,
                             seq := ⟨true, 0, 0⟩ }

/-- A placed wire word runs as the instruction it decodes to (log 5); one that decodes to none is sent as given, with its data
word: a word of no row (93_implementation_defined.md U3), and a word of a row other than WRITE's with a nonzero data word,
which is the model's choice (log 23). -/
def Obligations.StepRunsDecodedWireWord : Prop :=
  ∀ (s : State) (c d : Half) (h : List HostAction), s.seq.run = false → s.host = .wire c d :: h →
    (∀ i : Instr, decodeWire s.cfg c d = .ok i → step s = exec i { s with host := h }) ∧
    (∀ e : Reject, decodeWire s.cfg c d = .error e → s.cfg.transportValid = true →
      ∃ (t : State) (is : List Byte), step s = .next t ∧ oneFrame c d is s t ∧ endedOk t)

/-- A table word placed by `withFetchWord` is the instruction that the very next step runs (logs 4, 16). -/
def Obligations.FetchedTableWordRuns : Prop :=
  (∀ (s : State) (w : Nat) (i : Instr), decodeTableWord 8 w = some i →
    step (s.withFetchWord 8 w) =
      exec i { s with req := Request.ofOp (BitVec.ofNat 5 w), lat := Request.ofOp (BitVec.ofNat 5 w), busy := true,
                      done := false, ok := false, err := 0, seq := ⟨true, 0, 0⟩ }) ∧
  (∀ (s : State) (w : Nat) (i : Instr), s.cfg = Params.default → decodeTableWord 16 w = some i →
    step (s.withFetchWord 16 w) = exec i { s with busy := false, seq := SeqState.idle })

/-- START (10_state.md R26): `LAT <- REQ`, `BUSY <- 1`, `DONE <- 0`, `OK <- 0`, `ERR <- 0`, the operation begins at
`SEQ = (true, 0, 0)`, and nothing else changes. An operation that makes no primitive call (DECODE, SCALE, GASCONV) is run
and ended in the same step, which is the model's choice (log 4). -/
def Obligations.StartLatchesRequest : Prop :=
  ∀ (s : State) (h : List HostAction) (i : Instr),
    s.seq.run = false → s.host = .start :: h → decodeRequest s.req = .ok i → i.wellFormed s.cfg = true →
    (0 < callsOf i → (i = .begin → s.cfg.transportValid = true) →
      ∃ t : State, step s = .next t ∧ t.lat = s.req ∧ t.busy = true ∧ t.done = false ∧ t.ok = false ∧ t.err = 0 ∧
        t.seq = ⟨true, 0, 0⟩ ∧ t.host = h ∧ t.req = s.req ∧ t.cfg = s.cfg ∧ sameTemps s t ∧ t.rdata = s.rdata ∧
        sameSamples s t ∧ noBus s t) ∧
    (callsOf i = 0 →
      step s = exec i { s with host := h, lat := s.req, busy := true, done := false, ok := false, err := 0,
                               seq := ⟨true, 0, 0⟩ } ∧
      ∃ t : State, step s = .next t ∧ endedOk t ∧ t.lat = s.req ∧ t.req = s.req ∧ t.host = h ∧ t.cfg = s.cfg ∧ noBus s t)

/-- A START, blocking or not, with a reserved `OP` ends at once with PARAM: no primitive call, no result register
written (30_encoding.md R98). -/
def Obligations.ReservedOpEndsWithParam : Prop :=
  ∀ (s : State) (r : Request) (h : List HostAction),
    s.seq.run = false → 0x12 ≤ r.op.toNat → (s.host = .call r :: h ∨ (s.host = .start :: h ∧ s.req = r)) →
    ∃ t : State, step s = .next t ∧ endedFail .param t ∧ t.req = r ∧ t.lat = r ∧ t.host = h ∧ t.cfg = s.cfg ∧
      sameTemps s t ∧ t.rdata = s.rdata ∧ sameSamples s t ∧ noBus s t

/-- A non-blocking START of an operation with an operand out of range, or of BEGIN without a transport, ends in the same
step with PARAM or INIT and no primitive call (60_exceptions.md R210, R215). -/
def Obligations.StartChecksBeforeAnyBusTransaction : Prop :=
  ∀ (s : State) (h : List HostAction) (i : Instr),
    s.seq.run = false → s.host = .start :: h → decodeRequest s.req = .ok i →
    (i.wellFormed s.cfg = false → ∃ t : State, step s = .next t ∧ endedFail .param t ∧ t.lat = s.req ∧
      t.rdata = s.rdata ∧ sameTemps s t ∧ sameSamples s t ∧ noBus s t) ∧
    (i = .begin → s.cfg.transportValid = false → ∃ t : State, step s = .next t ∧ endedFail .init t ∧ t.lat = s.req ∧
      t.rdata = s.rdata ∧ sameTemps s t ∧ sameSamples s t ∧ noBus s t)

/-- While an operation runs, a START, a reset and a change of configuration are refused by name
(93_implementation_defined.md U1, U7, U11; 10_state.md R26; 70_reset_and_hazards.md R241, R245; log 10), and a bare wire word as
a START is (the model's own, log 5). -/
def Obligations.BusyCoreRefusesHost : Prop :=
  ∀ (s : State) (h : List HostAction), s.seq.run = true →
    (s.host = .start :: h → step s = .refused .startWhileBusy) ∧
    (∀ r : Request, s.host = .call r :: h → step s = .refused .startWhileBusy) ∧
    (∀ c d : Half, s.host = .wire c d :: h → step s = .refused .startWhileBusy) ∧
    (s.host = .reset :: h → step s = .refused .resetWhileBusy) ∧
    (∀ p : Params, s.host = .configure p :: h → step s = .refused .configureWhileBusy)

/-- A host write changes the request register it names and nothing else, busy or idle (R21, R22). -/
def Obligations.HostWriteChangesOnlyRequest : Prop :=
  ∀ (s : State) (w : ReqWrite) (h : List HostAction), s.host = .write w :: h →
    step s = .next { s with host := h, req := applyWrite w s.req } ∧
    (∀ v, w = .a v → applyWrite w s.req = { s.req with a := v }) ∧
    (∀ v, w = .op v → applyWrite w s.req = { s.req with op := v }) ∧
    (∀ v, w = .d v → applyWrite w s.req = { s.req with d := v }) ∧
    (∀ v, w = .m v → applyWrite w s.req = { s.req with m := v }) ∧
    (∀ v, w = .w v → applyWrite w s.req = { s.req with w := v }) ∧
    (∀ v, w = .n v → applyWrite w s.req = { s.req with n := v }) ∧
    (∀ j v, w = .l j v → applyWrite w s.req = { s.req with l := s.req.l.set j v })

/-- After reset the core is idle with `BUSY`, `DONE`, `OK`, `ERR`, `CS` zero and an empty trace (R35;
70_reset_and_hazards.md R240); a reset of the idle core does the same and leaves the environment and the configuration
inputs as they are (log 19). The default parameters of State.reset are the model's choice (log 7). -/
def Obligations.ResetLeavesCoreIdle : Prop :=
  (State.reset.seq = ⟨false, 0, 0⟩ ∧ State.reset.busy = false ∧ State.reset.done = false ∧ State.reset.ok = false ∧
    State.reset.err = 0 ∧ State.reset.bus.cs = false ∧ State.reset.bus.trace = [] ∧ State.reset.cfg = Params.default) ∧
  (∀ (s : State) (h : List HostAction), s.seq.run = false → s.host = .reset :: h →
    ∃ t : State, step s = .next t ∧ t.seq = ⟨false, 0, 0⟩ ∧ t.busy = false ∧ t.done = false ∧ t.ok = false ∧
      t.err = 0 ∧ t.bus.cs = false ∧ t.bus.trace = [] ∧ t.cfg = s.cfg ∧ t.bus.env = s.bus.env ∧ t.host = h)

/-- With nothing from the host the idle core stays as it is; it resets nothing and calls nothing, and a host that waits or
yields changes only its own list (R27, R220; log 4). -/
def Obligations.IdleCoreStays : Prop :=
  ∀ s : State, s.seq.run = false →
    (s.host = [] → step s = .next s) ∧
    (∀ h : List HostAction, s.host = .await :: h ∨ s.host = .yield :: h → step s = .next { s with host := h })

/-- A host read of a request or status register returns that register, zero-extended, at any time, and of a result register
or `RX[k]` while `BUSY = 0` (10_state.md R21, R23, R24, R25). -/
def Obligations.IdleHostReadReturnsContent : Prop :=
  ∀ s : State,
    (hostRead .reqOp s = s.req.op.setWidth 64 ∧ hostRead .reqA s = s.req.a.setWidth 64 ∧
      hostRead .reqD s = s.req.d.setWidth 64 ∧ hostRead .reqM s = s.req.m.setWidth 64 ∧
      hostRead .reqW s = s.req.w.setWidth 64 ∧ (∀ j : Fin 4, hostRead (.reqL j) s = s.req.l[j].setWidth 64) ∧
      hostRead .reqN s = s.req.n.setWidth 64) ∧
    (hostRead .busy s = (if s.busy then 1 else 0) ∧ hostRead .done s = (if s.done then 1 else 0) ∧
      hostRead .ok s = (if s.ok then 1 else 0) ∧ hostRead .err s = s.err.setWidth 64) ∧
    (s.busy = false →
      (∀ k : Fin 6, hostRead (.rx k) s = s.rx[k].setWidth 64) ∧ hostRead .rdata s = s.rdata.setWidth 64 ∧
      (∀ j : Fin 4, hostRead (.sample j) s = s.sample[j].setWidth 64) ∧ hostRead .volt s = s.volt ∧
      hostRead .gas s = s.gas ∧ hostRead .drdyv s = (if s.drdyv then 1 else 0))

/-! Frames and wire words. -/

/-- XFRAME sends any 16-bit word unchanged in one frame and always ends with `OK = 1` (40_frame_transport.md R117, R111). -/
def Obligations.XframeSendsAnyWord : Prop :=
  (∀ r : Request, r.op = 0x00 → decodeRequest r = .ok (.xframe r.d)) ∧
  (∀ (s : State) (c : Half), s.cfg.transportValid = true → sendsOneFrame (.xframe c) c 0#16 s)

/-- Each wire word run alone is one frame that carries it, WRITE with its data in slot 1; the core changes no other
register of its own (45_system_commands.md R191 to R198). That a wire word is run alone is the model's own (log 5). -/
def Obligations.WireWordIsOneFrame : Prop :=
  ∀ s : State, s.cfg.transportValid = true →
    sendsOneFrame .null s.cfg.opNull 0#16 s ∧
    sendsOneFrame .reset s.cfg.opReset 0#16 s ∧
    sendsOneFrame .standby s.cfg.opStandby 0#16 s ∧
    sendsOneFrame .wakeup s.cfg.opWakeup 0#16 s ∧
    sendsOneFrame .lock s.cfg.opLock 0#16 s ∧
    sendsOneFrame .unlock s.cfg.opUnlock 0#16 s ∧
    (∀ a : Addr, sendsOneFrame (.read a) (s.cfg.opRead ||| (a.setWidth 16 <<< 7)) 0#16 s) ∧
    (∀ (a : Addr) (v : Half), sendsOneFrame (.write a v) (s.cfg.opWrite ||| (a.setWidth 16 <<< 7)) v s)

/-- WACK is never sent: a NULL frame receives it, and all 16 bits of the response decide `OK` or ACK (R199;
41_register_access.md R129). Running it alone is the model's own (log 6). -/
def Obligations.WackComparesResponse : Prop :=
  ∀ (s : State) (a : Addr), s.cfg.transportValid = true →
    ∃ (t : State) (is : List Byte), exec (.wack a) s = .next t ∧ oneFrame s.cfg.opNull 0#16 is s t ∧
      (respOf is = withAddr s.cfg.opWack a → endedOk t) ∧
      (respOf is ≠ withAddr s.cfg.opWack a → endedFail .ack t) ∧
      sameInputs s t ∧ sameTemps s t ∧ t.rdata = s.rdata ∧ sameSamples s t

/-- CMD sends the standalone word its selector names, in one frame with `OK = 1`; a selector above 5 is PARAM
(45_system_commands.md R190). -/
def Obligations.CmdSendsSelectedWord : Prop :=
  (∀ r : Request, r.op = 0x01 → decodeRequest r = .ok (.cmd r.a)) ∧
  (∀ s : State, s.cfg.transportValid = true →
    sendsOneFrame (.cmd 0) s.cfg.opNull 0#16 s ∧ sendsOneFrame (.cmd 1) s.cfg.opReset 0#16 s ∧
    sendsOneFrame (.cmd 2) s.cfg.opStandby 0#16 s ∧ sendsOneFrame (.cmd 3) s.cfg.opWakeup 0#16 s ∧
    sendsOneFrame (.cmd 4) s.cfg.opLock 0#16 s ∧ sendsOneFrame (.cmd 5) s.cfg.opUnlock 0#16 s) ∧
  (∀ (s : State) (sel : Byte), 5 < sel.toNat → failsParam (.cmd sel) s)

/-- The bytes an environment has fixed in advance go to `RX` in slot order, most significant byte first
(20_memory.md R52, R66; 10_state.md R29), said of XFRAME's frame. The list of answers fixed in advance is the model's own
(log 2). -/
def Obligations.ScriptedBytesReachRx : Prop :=
  ∀ (s : State) (c : Half) (is rest : List Byte),
    s.cfg.transportValid = true → s.bus.env.dev = none → is.length = 18 → s.bus.env.bytes = is ++ rest →
    ∃ t : State, exec (.xframe c) s = .next t ∧ t.bus.env.bytes = rest ∧ t.bus.env.dev = none ∧ t.rx = packFrame is ∧
      t.bus.trace = s.bus.trace ++ frameEvents c 0#16 is

/-! Register access. -/

/-- RDREG: READ and NULL frames; `RDATA` is the response of the second; an address above 0x3F is PARAM
(41_register_access.md R126). -/
def Obligations.RdregReturnsSecondResponse : Prop :=
  (∀ r : Request, r.op = 0x02 → decodeRequest r = .ok (.rdreg r.a)) ∧
  (∀ (s : State) (a : Byte), s.cfg.transportValid = true → a.toNat ≤ 0x3F →
    ∃ (t : State) (is1 is2 : List Byte), exec (.rdreg a) s = .next t ∧
      twoFrames (withAddr s.cfg.opRead (a.setWidth 6)) 0#16 is1 is2 s t ∧ t.rdata = respOf is2 ∧ endedOk t ∧
      sameInputs s t ∧ sameTemps s t ∧ sameSamples s t) ∧
  (∀ (s : State) (a : Byte), 0x3F < a.toNat → failsParam (.rdreg a) s)

/-- WRREG: the WRITE frame with the data, a NULL frame, and `OK` exactly if all 16 bits of its response are the
acknowledgement of that address; else ACK; an address above 0x3F is PARAM (R128). -/
def Obligations.WrregSucceedsIffAcknowledged : Prop :=
  (∀ r : Request, r.op = 0x03 → decodeRequest r = .ok (.wrreg r.a r.d)) ∧
  (∀ (s : State) (a : Byte) (v : Half), s.cfg.transportValid = true → a.toNat ≤ 0x3F →
    ∃ (t : State) (is1 is2 : List Byte), exec (.wrreg a v) s = .next t ∧
      twoFrames (withAddr s.cfg.opWrite (a.setWidth 6)) v is1 is2 s t ∧
      (respOf is2 = withAddr s.cfg.opWack (a.setWidth 6) → endedOk t) ∧
      (respOf is2 ≠ withAddr s.cfg.opWack (a.setWidth 6) → endedFail .ack t) ∧
      sameInputs s t ∧ sameTemps s t ∧ t.rdata = s.rdata ∧ sameSamples s t) ∧
  (∀ (s : State) (a : Byte) (v : Half), 0x3F < a.toNat → failsParam (.wrreg a v) s)

/-- WRMASK: read, merge `(old & ~M) | (D & M)`, write with the acknowledgement compare, in four frames; the write is
issued whatever the mask; an address above 0x3F is PARAM (R131). -/
def Obligations.WrmaskMergesUnderMask : Prop :=
  (∀ r : Request, r.op = 0x04 → decodeRequest r = .ok (.wrmask r.a r.d r.m)) ∧
  (∀ (s : State) (a : Byte) (v m : Half), s.cfg.transportValid = true → a.toNat ≤ 0x3F →
    runsMaskedWrite (.wrmask a v m) (a.setWidth 6) v m s) ∧
  (∀ (s : State) (a : Byte) (v m : Half), 0x3F < a.toNat → failsParam (.wrmask a v m) s)

/-- The merge keeps the old bits outside the mask and takes the data's bits inside it (R131, R132). -/
def Obligations.MergeTakesMaskedBits : Prop :=
  ∀ (old data mask : Half) (k : Nat),
    (merge old data mask).getLsbD k = if mask.getLsbD k then data.getLsbD k else old.getLsbD k

/-! Samples. -/

/-- DECODE writes the 24 high bits of the container, sign-extended, to lane 0; the low byte does not matter; always
`OK = 1` and no bus traffic (42_sample_decode.md R142). -/
def Obligations.DecodeSignExtendsContainer : Prop :=
  (∀ r : Request, r.op = 0x0F → decodeRequest r = .ok (.decode r.w)) ∧
  (∀ (s : State) (w : BitVec 32), ∃ t : State, exec (.decode w) s = .next t ∧
    t.sample[0] = (w.extractLsb' 8 24).signExtend 32 ∧
    t.sample[1] = s.sample[1] ∧ t.sample[2] = s.sample[2] ∧ t.sample[3] = s.sample[3] ∧
    endedOk t ∧ sameInputs s t ∧ sameTemps s t ∧ t.rdata = s.rdata ∧ t.volt = s.volt ∧ t.gas = s.gas ∧
    t.drdyv = s.drdyv ∧ noBus s t)

/-- RDCHS: one NULL frame; lane `j` in use is the decoded code of the channel it names; other lanes keep their values;
a count above 4 or a used index above 3 is PARAM (R144). -/
def Obligations.RdchsDecodesLanesInOrder : Prop :=
  (∀ r : Request, r.op = 0x05 → decodeRequest r = .ok (.rdchs r.l r.n)) ∧
  (∀ (s : State) (l : Vector Byte 4) (n : Byte), s.cfg.transportValid = true → n.toNat ≤ 4 →
    (∀ j : Fin 4, j.val < n.toNat → l[j].toNat ≤ 3) →
    ∃ (t : State) (is : List Byte), exec (.rdchs l n) s = .next t ∧ oneFrame s.cfg.opNull 0#16 is s t ∧
      (∀ j : Fin 4, t.sample[j] =
        if j.val < n.toNat then (codeOf is l[j].toNat).signExtend 32 else s.sample[j]) ∧
      endedOk t ∧ sameInputs s t ∧ sameTemps s t ∧ t.rdata = s.rdata ∧ t.volt = s.volt ∧ t.gas = s.gas ∧
      t.drdyv = s.drdyv) ∧
  (∀ (s : State) (l : Vector Byte 4) (n : Byte),
    (4 < n.toNat ∨ ∃ j : Fin 4, j.val < n.toNat ∧ 3 < l[j].toNat) → failsParam (.rdchs l n) s)

/-- RDCH: one NULL frame and lane 0 is the decoded code of the channel; an index above 3 is PARAM (R146). -/
def Obligations.RdchDecodesOneChannel : Prop :=
  (∀ r : Request, r.op = 0x06 → decodeRequest r = .ok (.rdch r.a)) ∧
  (∀ (s : State) (i : Byte), s.cfg.transportValid = true → i.toNat ≤ 3 →
    ∃ (t : State) (is : List Byte), exec (.rdch i) s = .next t ∧ oneFrame s.cfg.opNull 0#16 is s t ∧
      t.sample[0] = (codeOf is i.toNat).signExtend 32 ∧
      t.sample[1] = s.sample[1] ∧ t.sample[2] = s.sample[2] ∧ t.sample[3] = s.sample[3] ∧
      endedOk t ∧ sameInputs s t ∧ sameTemps s t ∧ t.rdata = s.rdata ∧ t.volt = s.volt ∧ t.gas = s.gas ∧
      t.drdyv = s.drdyv) ∧
  (∀ (s : State) (i : Byte), 3 < i.toNat → failsParam (.rdch i) s)

/-- The sign extender is a bijection from the 24-bit codes onto −2^23 .. 2^23−1 with the values of R141 (R148). -/
def Obligations.SignExtenderIsBijective : Prop :=
  (∀ r : Slot, (decode24 r).toInt = if r.toNat < 2 ^ 23 then (r.toNat : Int) else (r.toNat : Int) - 2 ^ 24) ∧
  (∀ r r' : Slot, decode24 r = decode24 r' → r = r') ∧
  (∀ v : Int, -8388608 ≤ v → v ≤ 8388607 → ∃ r : Slot, (decode24 r).toInt = v) ∧
  (∀ r : Slot, decode24 r = decode32 (r ++ 0#8)) ∧
  (∀ w : BitVec 32, decode32 w = decode24 (w.extractLsb' 8 24))

/-! Scaling. -/

/-- SCALE: `VOLT` is `code × FS_UV / 8388607` rounded toward zero; a code outside 24 bits is PARAM (43_scaling.md R156). -/
def Obligations.ScaleRoundsTowardZero : Prop :=
  (∀ r : Request, r.op = 0x10 → decodeRequest r = .ok (.scale r.w)) ∧
  (∀ (s : State) (w : BitVec 32), -8388608 ≤ w.toInt → w.toInt ≤ 8388607 →
    ∃ t : State, exec (.scale w) s = .next t ∧
      t.volt.toInt = Int.tdiv (w.toInt * (s.cfg.fsUv.toNat : Int)) 8388607 ∧
      endedOk t ∧ sameInputs s t ∧ sameTemps s t ∧ t.rdata = s.rdata ∧ t.sample = s.sample ∧ t.gas = s.gas ∧
      t.drdyv = s.drdyv ∧ noBus s t) ∧
  (∀ (s : State) (w : BitVec 32), (w.toInt < -8388608 ∨ 8388607 < w.toInt) → failsParam (.scale w) s)

/-- The scaled value is less than one microvolt from the exact one, is odd in the code, is zero for zero, full scale for
8388607, and stays within `2^31 + 256` (R156, R158). -/
def Obligations.ScaleIsExactToOneMicrovolt : Prop :=
  ∀ (c : Int) (fs : BitVec 31),
    |scaleInt c fs * 8388607 - c * (fs.toNat : Int)| < 8388607 ∧
    scaleInt (-c) fs = -scaleInt c fs ∧
    scaleInt 0 fs = 0 ∧ scaleInt 8388607 fs = fs.toNat ∧
    (-8388608 ≤ c → c ≤ 8388607 → |scaleInt c fs| ≤ 2 ^ 31 + 256)

/-- RDVOLT: one NULL frame, the channel decoded to lane 0, `VOLT` its scaled value; an index above 3 is PARAM (R160). -/
def Obligations.RdvoltScalesDecodedChannel : Prop :=
  (∀ r : Request, r.op = 0x07 → decodeRequest r = .ok (.rdvolt r.a)) ∧
  (∀ (s : State) (i : Byte), s.cfg.transportValid = true → i.toNat ≤ 3 →
    ∃ (t : State) (is : List Byte), exec (.rdvolt i) s = .next t ∧ oneFrame s.cfg.opNull 0#16 is s t ∧
      t.sample[0] = (codeOf is i.toNat).signExtend 32 ∧
      t.sample[1] = s.sample[1] ∧ t.sample[2] = s.sample[2] ∧ t.sample[3] = s.sample[3] ∧
      t.volt.toInt = Int.tdiv ((codeOf is i.toNat).toInt * (s.cfg.fsUv.toNat : Int)) 8388607 ∧
      endedOk t ∧ sameInputs s t ∧ sameTemps s t ∧ t.rdata = s.rdata ∧ t.gas = s.gas ∧ t.drdyv = s.drdyv) ∧
  (∀ (s : State) (i : Byte), 3 < i.toNat → failsParam (.rdvolt i) s)

/-- GASCONV always completes; `GAS` is `(VOLT − Z_UV) × K_Q / 2^K_FRAC` rounded toward zero wherever 64 bits hold it, which
they do, with `|GAS| < 2^40`, for every `VOLT` that the scaler can write (43_scaling.md R163). -/
def Obligations.GasconvIsLinearInVolt : Prop :=
  (∀ r : Request, r.op = 0x11 → decodeRequest r = .ok .gasconv) ∧
  (∀ s : State, ∃ t : State, exec .gasconv s = .next t ∧
    (∀ g : Int, g = Int.tdiv ((s.volt.toInt - s.cfg.zUv.toInt) * s.cfg.kQ.toInt) (2 ^ s.cfg.kFrac) →
      -(2 ^ 63) ≤ g → g < 2 ^ 63 → t.gas.toInt = g) ∧
    (|s.volt.toInt| ≤ 2 ^ 31 + 256 → s.cfg.kFrac = 16 →
      t.gas.toInt = Int.tdiv ((s.volt.toInt - s.cfg.zUv.toInt) * s.cfg.kQ.toInt) 65536 ∧ |t.gas.toInt| < 2 ^ 40) ∧
    endedOk t ∧ sameInputs s t ∧ sameTemps s t ∧ t.rdata = s.rdata ∧ t.sample = s.sample ∧ t.volt = s.volt ∧
    t.drdyv = s.drdyv ∧ noBus s t)

/-! Identity, configuration, data-ready. -/

/-- RDID reads register 0x00 into `RDATA` and compares it under `ID_MASK`: `OK` or ID (44_config_ops.md R170). -/
def Obligations.RdidComparesIdentity : Prop :=
  (∀ r : Request, r.op = 0x09 → decodeRequest r = .ok .rdid) ∧
  (∀ s : State, s.cfg.transportValid = true → identifies .rdid s)

/-- BEGIN: INIT before any primitive call if the transport is invalid, else exactly the identity check (R172). -/
def Obligations.BeginChecksTransportThenIdentity : Prop :=
  (∀ r : Request, r.op = 0x0A → decodeRequest r = .ok .begin) ∧
  (∀ s : State, s.cfg.transportValid = true → identifies .begin s) ∧
  (∀ s : State, s.cfg.transportValid = false →
    ∃ t : State, exec .begin s = .next t ∧ endedFail .init t ∧ onlyFlags s t)

/-- SETGAIN: the masked write of GAIN (0x04) under 0xFFFF, so that nibble `n` of the word written is channel `n`'s code;
a code above `GAIN_MAX` is PARAM (R174; 30_encoding.md R89). -/
def Obligations.SetgainWritesPackedCodes : Prop :=
  (∀ r : Request, r.op = 0x0B → decodeRequest r = .ok (.setgain r.l)) ∧
  (∀ (s : State) (g : Vector Byte 4), s.cfg.transportValid = true → (∀ n : Fin 4, g[n].toNat ≤ s.cfg.gainMax) →
    ∃ t : State, exec (.setgain g) s = .next t ∧ maskedWriteDone 0x04#6 (packGain g) 0xFFFF#16 s t ∧
      ∀ n : Fin 4, t.tmpNew.extractLsb' (4 * n.val) 4 = g[n].setWidth 4) ∧
  (∀ (s : State) (g : Vector Byte 4), (∃ n : Fin 4, s.cfg.gainMax < g[n].toNat) → failsParam (.setgain g) s)

/-- GCHOP: the masked write of CONFIGURE (0x06) under 0xFF00: bit 8 the enable, bits 15:9 the delay minus one, bits 7:0 as
read; an enable above 1, a delay of 0 or above `CHOP_DELAY_MAX` is PARAM (R176; 10_state.md R43). -/
def Obligations.GchopWritesChopFields : Prop :=
  (∀ r : Request, r.op = 0x0C → decodeRequest r = .ok (.gchop r.a r.d)) ∧
  (∀ (s : State) (en : Byte) (delay : Half), s.cfg.transportValid = true → en.toNat ≤ 1 → 1 ≤ delay.toNat →
    delay.toNat ≤ s.cfg.chopDelayMax →
    ∃ t : State, exec (.gchop en delay) s = .next t ∧ maskedWriteDone 0x06#6 (packChop en delay) 0xFF00#16 s t ∧
      t.tmpNew.getLsbD 8 = decide (en = 1) ∧ (t.tmpNew.extractLsb' 9 7).toNat = (delay.toNat - 1) % 128 ∧
      t.tmpNew.extractLsb' 0 8 = t.tmpOld.extractLsb' 0 8) ∧
  (∀ (s : State) (en : Byte) (delay : Half),
    (1 < en.toNat ∨ delay.toNat < 1 ∨ s.cfg.chopDelayMax < delay.toNat) → failsParam (.gchop en delay) s)

/-- SETOSR: the masked write of CLOCK (0x03) with the code at `OSR_LSB` under `OSR_MASK`; a code above `OSR_MAX` is PARAM
(44_config_ops.md R178). -/
def Obligations.SetosrWritesOversamplingField : Prop :=
  (∀ r : Request, r.op = 0x0D → decodeRequest r = .ok (.setosr r.a)) ∧
  (∀ (s : State) (c : Byte), s.cfg.transportValid = true → c.toNat ≤ s.cfg.osrMax →
    runsMaskedWrite (.setosr c) 0x03#6 (c.setWidth 16 <<< s.cfg.osrLsb) s.cfg.osrMask s) ∧
  (∀ (s : State) (c : Byte), s.cfg.osrMax < c.toNat → failsParam (.setosr c) s)

/-- SETPWR: the masked write of CLOCK (0x03) with the code at `PWR_LSB` under `PWR_MASK`; a code above `PWR_MAX` is PARAM
(R180). -/
def Obligations.SetpwrWritesPowerField : Prop :=
  (∀ r : Request, r.op = 0x0E → decodeRequest r = .ok (.setpwr r.a)) ∧
  (∀ (s : State) (c : Byte), s.cfg.transportValid = true → c.toNat ≤ s.cfg.pwrMax →
    runsMaskedWrite (.setpwr c) 0x03#6 (c.setWidth 16 <<< s.cfg.pwrLsb) s.cfg.pwrMask s) ∧
  (∀ (s : State) (c : Byte), s.cfg.pwrMax < c.toNat → failsParam (.setpwr c) s)

/-- DRDY: one `ReadDRDY`, its level copied to `DRDYV` uninterpreted, `OK = 1`, nothing else; refused without the line
(R182; 93_implementation_defined.md U5). The levels fixed in advance are the model's own (log 2), the refusal is log 9. -/
def Obligations.DrdyCopiesLevel : Prop :=
  (∀ r : Request, r.op = 0x08 → decodeRequest r = .ok .drdy) ∧
  (∀ s : State, s.cfg.hasDrdy = true → s.cfg.transportValid = true →
    ∃ (t : State) (b : Bool), exec .drdy s = .next t ∧ t.bus.trace = s.bus.trace ++ [.dr b] ∧ t.drdyv = b ∧
      (∀ (b' : Bool) (rest : List Bool), s.bus.env.levels = b' :: rest → b = b' ∧ t.bus.env.levels = rest) ∧
      endedOk t ∧ t.rx = s.rx ∧ t.bus.cs = s.bus.cs ∧ sameInputs s t ∧ sameTemps s t ∧ t.rdata = s.rdata ∧
      t.sample = s.sample ∧ t.volt = s.volt ∧ t.gas = s.gas) ∧
  (∀ s : State, s.cfg.hasDrdy = false → exec .drdy s = .refused .drdyAbsent)

/-! All operations. -/

/-- Exactly the operands outside the ranges of 30_encoding.md R96 are parameter failures, and these change nothing but the
status fields (60_exceptions.md R209, R210). That a bare wire word, which has no range, ends in no PARAM is the model's own
(log 5; for WACK, log 6). -/
def Obligations.ParamFailsExactlyOutsideRanges : Prop :=
  ∀ (s : State) (i : Instr),
    (i.wellFormed s.cfg = false → failsParam i s) ∧
    (i.wellFormed s.cfg = true → ∀ t : State, exec i s = .next t → ¬ (t.ok = false ∧ t.err = 4))

/-- With a valid transport (and the data-ready line, for DRDY) every operation reaches `DONE`: idle, `OK` exactly if
`ERR = 0`, `ERR` one of ID 2, ACK 3, PARAM 4 or none 0, and request, latch, configuration and host untouched
(10_state.md R26; 60_exceptions.md R206; 20_memory.md R61). The codes of the four classes are those of R206. That every
primitive call returns is a premise (R67; log 17). That a bare wire word run alone reaches `DONE` too, with the latch as it
was, is the model's own (log 5; for WACK, log 6). -/
def Obligations.EveryOperationReachesDone : Prop :=
  (failCode .init = 1 ∧ failCode .id = 2 ∧ failCode .ack = 3 ∧ failCode .param = 4) ∧
  ∀ (s : State) (i : Instr), s.cfg.transportValid = true → (i = .drdy → s.cfg.hasDrdy = true) →
    ∃ t : State, exec i s = .next t ∧ ended t ∧ (t.ok = true ↔ t.err = 0) ∧
      (t.err = 0 ∨ t.err = 2 ∨ t.err = 3 ∨ t.err = 4) ∧ sameInputs s t

/-- The number of frames of each operation (R32) and with it of its events: 20 a frame, one for DRDY, none for the pure
operations. That a bare wire word is one frame is the model's own (log 5; for WACK, log 6). -/
def Obligations.EventsPerOperation : Prop :=
  ∀ (s t : State) (i : Instr), i.wellFormed s.cfg = true → s.cfg.transportValid = true → exec i s = .next t →
    t.bus.trace.length = s.bus.trace.length + callsOf i ∧
    callsOf i =
      match i with
      | .xframe _ | .cmd _ | .rdchs _ _ | .rdch _ | .rdvolt _ => 20
      | .rdreg _ | .wrreg _ _ | .rdid | .begin => 40
      | .wrmask _ _ _ | .setgain _ | .gchop _ _ | .setosr _ | .setpwr _ => 80
      | .drdy => 1
      | .decode _ | .scale _ | .gasconv => 0
      | .null | .reset | .standby | .wakeup | .lock | .unlock | .read _ | .write _ _ | .wack _ => 20

/-- Without a valid transport every well-formed operation that calls a collaborator is refused, but BEGIN, which reports
INIT (60_exceptions.md R207; 93_implementation_defined.md U2; log 8). One that a non-blocking START began is refused by the
running core at its next call, and DRDY without the line likewise (U5; log 9). That a bare wire word is refused as an operation
is the model's own (log 5; for WACK, log 6). -/
def Obligations.InvalidTransportIsRefused : Prop :=
  (∀ (s : State) (i : Instr), s.cfg.transportValid = false → i.wellFormed s.cfg = true → 0 < callsOf i → i ≠ .begin →
    (i = .drdy → s.cfg.hasDrdy = true) → exec i s = .refused .transportInvalid) ∧
  (∀ (s : State) (i : Instr), decodeRequest s.lat = .ok i → 0 < callsOf i → i ≠ .begin →
    (s.cfg.transportValid = false → (i = .drdy → s.cfg.hasDrdy = true) → tick s = .refused .transportInvalid) ∧
    (i = .drdy → s.cfg.hasDrdy = false → tick s = .refused .drdyAbsent))

/-- Every operation leaves each lane of `SAMPLE` as it was or with a value of the 24-bit range (10_state.md R23;
42_sample_decode.md R140). That a bare wire word leaves them is the model's own (log 5; for WACK, log 6). -/
def Obligations.SamplesStayIn24Bits : Prop :=
  ∀ (s t : State) (i : Instr) (j : Fin 4), exec i s = .next t → t.sample[j] = s.sample[j] ∨ inRange24 t.sample[j]

/-- The expansions of 30_encoding.md R101 but DRDYSTAT's: what an operation does is what its expansion does, one after the
other. The frames of RDREG, WRREG, XFRAME and CMD are said by wire words run alone, which is the model's own (log 5; for the
compare after a write, log 6): XFRAME's for the six standalone words, READ's words and WRITE's with zero data. -/
def Obligations.OperationsExpandAsListed : Prop :=
  ∀ s : State, s.cfg.transportValid = true →
    (exec (.xframe s.cfg.opNull) s = exec .null s ∧ exec (.xframe s.cfg.opReset) s = exec .reset s ∧
      exec (.xframe s.cfg.opStandby) s = exec .standby s ∧ exec (.xframe s.cfg.opWakeup) s = exec .wakeup s ∧
      exec (.xframe s.cfg.opLock) s = exec .lock s ∧ exec (.xframe s.cfg.opUnlock) s = exec .unlock s) ∧
    (∀ a : Addr, exec (.xframe (withAddr s.cfg.opRead a)) s = exec (.read a) s ∧
      exec (.xframe (withAddr s.cfg.opWrite a)) s = exec (.write a 0) s) ∧
    (exec (.cmd 0) s = exec .null s ∧ exec (.cmd 1) s = exec .reset s ∧ exec (.cmd 2) s = exec .standby s ∧
      exec (.cmd 3) s = exec .wakeup s ∧ exec (.cmd 4) s = exec .lock s ∧ exec (.cmd 5) s = exec .unlock s) ∧
    (∀ (a : Byte) (s1 s2 : State), a.toNat ≤ 0x3F → exec (.read (a.setWidth 6)) s = .next s1 → exec .null s1 = .next s2 →
      exec (.rdreg a) s = .next { s2 with rdata := s2.rx[0].extractLsb' 16 16 }) ∧
    (∀ (a : Byte) (v : Half) (s1 : State), a.toNat ≤ 0x3F → exec (.write (a.setWidth 6) v) s = .next s1 →
      exec (.wrreg a v) s = exec (.wack (a.setWidth 6)) s1) ∧
    (∀ (a : Byte) (v m : Half) (s1 : State), exec (.rdreg a) s = .next s1 → a.toNat ≤ 0x3F →
      exec (.wrmask a v m) s =
        exec (.wrreg a (merge s1.rdata v m)) { s1 with tmpOld := s1.rdata, tmpNew := merge s1.rdata v m }) ∧
    (∀ (i : Byte), i.toNat ≤ 3 → exec (.rdch i) s = exec (.rdchs #v[i, 0, 0, 0] 1) s) ∧
    (∀ (i : Byte) (s1 : State), i.toNat ≤ 3 → exec (.rdch i) s = .next s1 →
      exec (.rdvolt i) s = exec (.scale s1.sample[0]) s1) ∧
    (∀ s1 : State, exec (.rdreg 0x00) s = .next s1 →
      exec .rdid s = .next (if s1.rdata &&& s.cfg.idMask = s.cfg.idExpect &&& s.cfg.idMask then s1
                            else { s1 with ok := false, err := 2 })) ∧
    exec .begin s = exec .rdid s ∧
    (∀ g : Vector Byte 4, (∀ n : Fin 4, g[n].toNat ≤ s.cfg.gainMax) →
      exec (.setgain g) s = exec (.wrmask 0x04#8 (packGain g) 0xFFFF#16) s) ∧
    (∀ (en : Byte) (delay : Half), en.toNat ≤ 1 → 1 ≤ delay.toNat → delay.toNat ≤ s.cfg.chopDelayMax →
      exec (.gchop en delay) s = exec (.wrmask 0x06#8 (packChop en delay) 0xFF00#16) s) ∧
    (∀ c : Byte, c.toNat ≤ s.cfg.osrMax →
      exec (.setosr c) s = exec (.wrmask 0x03#8 (c.setWidth 16 <<< s.cfg.osrLsb) s.cfg.osrMask) s) ∧
    (∀ c : Byte, c.toNat ≤ s.cfg.pwrMax →
      exec (.setpwr c) s = exec (.wrmask 0x03#8 (c.setWidth 16 <<< s.cfg.pwrLsb) s.cfg.pwrMask) s)

/-! The sequencer. -/

/-- Where a received byte goes (10_state.md R29): byte `n` of slot `k` to bits `31−8n : 24−8n` of `RX[k]`; byte 0 clears
the rest; the other containers keep their values; three bytes make the container. -/
def Obligations.ReceivedByteGoesToItsPlace : Prop :=
  (∀ (k : Fin 6) (n : Fin 3) (i : Byte) (rx : Vector Cont 6),
    (storeByte (3 * k.val + n.val) i rx)[k].extractLsb' (24 - 8 * n.val) 8 = i ∧
    (n = 0 → (storeByte (3 * k.val + n.val) i rx)[k].extractLsb' 0 24 = 0) ∧
    (∀ k' : Fin 6, k' ≠ k → (storeByte (3 * k.val + n.val) i rx)[k'] = rx[k'])) ∧
  (∀ (k : Fin 6) (b0 b1 b2 : Byte) (rx : Vector Cont 6),
    storeByte (3 * k.val + 2) b2 (storeByte (3 * k.val + 1) b1 (storeByte (3 * k.val) b0 rx)) =
      rx.set k (b0 ++ b1 ++ b2 ++ 0#8))

/-- A step of the running core is a `tick`, unless the host does something else (log 4): where it has nothing to do, waits, or
yields. A `tick` is one primitive call, in the order of R28: chip select asserted at position 0, byte `pos − 1` of the frame's
transmit words exchanged at 1 to 18, chip select deasserted at 19, and then the next frame or the end. DRDY makes its one
`ReadDRDY` and ends; that it does so at position 0 is the model's choice (log 20). -/
def Obligations.SequencerMakesOneCallAStep : Prop :=
  (∀ (s : State) (h : List HostAction), s.seq.run = true →
    (s.host = [] → step s = tick s) ∧ (s.host = .await :: h → step s = tick s) ∧
    (s.host = .yield :: h → step s = tick { s with host := h })) ∧
  ∀ (s : State) (i : Instr), decodeRequest s.lat = .ok i → s.cfg.transportValid = true → s.seq.run = true →
    RunsOperation s →
    (i ≠ .drdy → s.seq.pos = 0 → ∃ t : State, tick s = .next t ∧ t.bus.trace = s.bus.trace ++ [.cs true] ∧
      t.bus.cs = true ∧ t.seq = ⟨true, s.seq.fr, 1⟩ ∧ t.rx = s.rx) ∧
    (i ≠ .drdy → s.seq.pos ≠ 0 → s.seq.pos ≠ 19 → ∃ (t : State) (b : Byte), tick s = .next t ∧
      t.bus.trace = s.bus.trace ++ [.x (txByte (txWords s.cfg i s.tmpNew s.seq.fr).1 (txWords s.cfg i s.tmpNew s.seq.fr).2
        (s.seq.pos.val - 1)) b] ∧
      t.rx = storeByte (s.seq.pos.val - 1) b s.rx ∧ t.bus.cs = s.bus.cs ∧ t.seq = ⟨true, s.seq.fr, s.seq.pos + 1⟩) ∧
    (i ≠ .drdy → s.seq.pos = 19 → ∃ t : State, tick s = .next t ∧ t.bus.trace = s.bus.trace ++ [.cs false] ∧
      t.bus.cs = false ∧ t.rx = s.rx ∧
      (s.seq.fr.val + 1 < framesOf i → t.seq = ⟨true, s.seq.fr + 1, 0⟩ ∧ t.busy = s.busy) ∧
      (s.seq.fr.val + 1 = framesOf i → ended t)) ∧
    (i = .drdy → s.cfg.hasDrdy = true → s.seq = ⟨true, 0, 0⟩ ∧ ∃ (t : State) (b : Bool), tick s = .next t ∧
      t.bus.trace = s.bus.trace ++ [.dr b] ∧ t.drdyv = b ∧ t.bus.cs = s.bus.cs ∧ t.rx = s.rx ∧ endedOk t)

/-- Small-step and big-step agree (40_frame_transport.md R113): from just after START, the sequencer's primitive calls, one a
step, lead to exactly the state that the operation's rule gives. That DRDY is done after its one call is log 20. -/
def Obligations.SequencerAgreesWithOperation : Prop :=
  ∀ (s : State) (i : Instr), decodeRequest s.lat = .ok i → i.wellFormed s.cfg = true → 0 < callsOf i →
    s.cfg.transportValid = true → (i = .drdy → s.cfg.hasDrdy = true) → s.seq = ⟨true, 0, 0⟩ →
    ticks (callsOf i) s = exec i s

/-- A running operation does not see the host's writes to `REQ` (10_state.md R22, R30; 20_memory.md R65): two runs that
differ only in `REQ` differ only in `REQ`, step by step. -/
def Obligations.RunningOperationIgnoresRequest : Prop :=
  ∀ (n : Nat) (s : State) (r : Request),
    (∀ t : State, ticks n s = .next t → ticks n { s with req := r } = .next { t with req := r }) ∧
    (∀ x : Refusal, ticks n s = .refused x → ticks n { s with req := r } = .refused x)

/-! Invariants. -/

/-- Every step keeps the invariant: the handshake of R25 to R27 and R31, a running sequencer inside a well-formed operation,
and a trace of whole frames with an open frame only where `SEQ` says (R114, R225 to R227). That a running DRDY stands at
`SEQ = (true, 0, 0)` is the model's choice (log 20). -/
def Obligations.StepKeepsInvariant : Prop :=
  ∀ s t : State, s.Inv → step s = .next t → t.Inv

/-- The machine right after reset meets the invariant. -/
def Obligations.ResetMeetsInvariant : Prop := State.reset.Inv

/-- Every step but a core reset keeps zero low bytes in all six containers (R24; 40_frame_transport.md R114). -/
def Obligations.StepKeepsContainers : Prop :=
  ∀ s t : State, Containers s → (∀ h : List HostAction, s.host ≠ .reset :: h) → step s = .next t → Containers t

/-! Under the reference device (20_memory.md R70 to R76). A claim about FDEV, not about a chip (R75). -/

/-- Under FDEV, RDREG(a) ends with `RDATA = reg[a]` (R74), and changes no register of the device. -/
def Obligations.FdevReadReturnsRegister : Prop :=
  ∀ (s : State) (f : Fdev) (a : Byte), s.cfg.transportValid = true → s.cfg.wireOk → a.toNat ≤ 0x3F →
    s.bus.env.dev = some f →
    ∃ (t : State) (f' : Fdev), exec (.rdreg a) s = .next t ∧ endedOk t ∧ t.rdata = f.reg[(a.setWidth 6).toNat] ∧
      t.bus.env.dev = some f' ∧ f'.reg = f.reg ∧ f'.ch = f.ch ∧ f'.ackbad = f.ackbad

/-- Under FDEV, WRREG(a, v) ends with `reg[a] = v` and `OK = 1`, or with `ackbad` `OK = 0` and ACK (R74). -/
def Obligations.FdevWriteStoresRegister : Prop :=
  ∀ (s : State) (f : Fdev) (a : Byte) (v : Half), s.cfg.transportValid = true → s.cfg.wireOk → s.cfg.opWack ≠ 0 →
    a.toNat ≤ 0x3F → s.bus.env.dev = some f →
    ∃ (t : State) (f' : Fdev), exec (.wrreg a v) s = .next t ∧ t.bus.env.dev = some f' ∧
      f'.reg = f.reg.set (a.setWidth 6).toNat v ∧
      (f.ackbad = false → endedOk t) ∧ (f.ackbad = true → endedFail .ack t)

/-- The round trip under FDEV (R74; 41_register_access.md R134): WRMASK then RDREG of the same address yields
`(old & ~mask) | (data & mask)`, and `RDATA` was the old value in between. -/
def Obligations.FdevMaskedWriteRoundTrip : Prop :=
  ∀ (s : State) (f : Fdev) (a : Byte) (v m : Half), s.cfg.transportValid = true → s.cfg.wireOk → a.toNat ≤ 0x3F →
    s.bus.env.dev = some f → f.ackbad = false →
    ∃ t u : State, exec (.wrmask a v m) s = .next t ∧ endedOk t ∧ t.rdata = f.reg[(a.setWidth 6).toNat] ∧
      exec (.rdreg a) t = .next u ∧ endedOk u ∧
      u.rdata = (f.reg[(a.setWidth 6).toNat] &&& ~~~m) ||| (v &&& m)

/-! Configuration inputs and the DRDYSTAT idiom. -/

/-- A change of the configuration inputs of an idle core changes them and nothing else (10_state.md R33;
70_reset_and_hazards.md R245, R253). That the inputs stand in the state and the host changes them by an action is the model's
own (logs 1, 4). -/
def Obligations.ConfigureChangesOnlyInputs : Prop :=
  ∀ (s : State) (p : Params) (h : List HostAction), s.seq.run = false → s.host = .configure p :: h →
    ∃ t : State, step s = .next t ∧ t.cfg = p ∧ t.host = h ∧ t.req = s.req ∧ t.lat = s.lat ∧ sameTemps s t ∧
      t.rdata = s.rdata ∧ sameSamples s t ∧ t.busy = s.busy ∧ t.done = s.done ∧ t.ok = s.ok ∧ t.err = s.err ∧
      t.seq = s.seq ∧ t.rx = s.rx ∧ t.bus = s.bus

/-- DRDYSTAT (44_config_ops.md R183; 30_encoding.md R101): `RDREG(0x01)` in two frames, then the host's
`RDATA & DRDY_STAT_MASK`, which keeps exactly the bits of the second response that the mask names. -/
def Obligations.DrdystatMasksStatus : Prop :=
  ∀ s : State, s.cfg.transportValid = true →
    ∃ (t : State) (is1 is2 : List Byte), exec (.rdreg 0x01) s = .next t ∧
      twoFrames (withAddr s.cfg.opRead 1#6) 0#16 is1 is2 s t ∧ endedOk t ∧
      drdyStat t = respOf is2 &&& s.cfg.drdyStatMask ∧
      ∀ k : Nat, (drdyStat t).getLsbD k = ((respOf is2).getLsbD k && s.cfg.drdyStatMask.getLsbD k)
end

