-- ==== Sys2Proof/Laws/Encoding.lean ====
section
/-! SUPPORT. The address field of a command word, and the bytes of a frame. -/
namespace Sys2Proof

/-- The sixteen bit positions of a command word. -/
theorem halfIndex_cases {k : Nat} (h : k < 16) :
    k = 0 ∨ k = 1 ∨ k = 2 ∨ k = 3 ∨ k = 4 ∨ k = 5 ∨ k = 6 ∨ k = 7 ∨ k = 8 ∨ k = 9 ∨ k = 10 ∨ k = 11 ∨ k = 12 ∨
      k = 13 ∨ k = 14 ∨ k = 15 := by omega

/-- An addressed word is in its opcode's row (R92). -/
theorem withAddr_and_addressedMask {op : Half} (a : Addr) (h : op &&& opcodeMask = op) :
    withAddr op a &&& addressedMask = op := by
  rw [← h]
  unfold withAddr addressedMask opcodeMask
  ext k hk
  rcases halfIndex_cases hk with h|h|h|h|h|h|h|h|h|h|h|h|h|h|h|h <;> subst h <;> simp [BitVec.getElem_shiftLeft]

/-- An addressed word has its opcode's bits 15:13. -/
theorem withAddr_and_opcodeMask {op : Half} (a : Addr) (h : op &&& opcodeMask = op) :
    withAddr op a &&& opcodeMask = op := by
  rw [← h]
  unfold withAddr opcodeMask
  ext k hk
  rcases halfIndex_cases hk with h|h|h|h|h|h|h|h|h|h|h|h|h|h|h|h <;> subst h <;> simp [BitVec.getElem_shiftLeft]

/-- The address field reads back (R85). -/
theorem addrOf_withAddr {op : Half} (a : Addr) (h : op &&& opcodeMask = op) : addrOf (withAddr op a) = a := by
  rw [← h]
  unfold withAddr addrOf opcodeMask
  ext k hk
  rcases halfIndex_cases (by omega : k < 16) with h|h|h|h|h|h|h|h|h|h|h|h|h|h|h|h <;> subst h <;>
    first | omega | simp [BitVec.getElem_shiftLeft]

/-- A word in an opcode's row is that opcode with its address field (R80, R92). -/
theorem withAddr_addrOf {op c : Half} (h : c &&& addressedMask = op) : withAddr op (addrOf c) = c := by
  unfold withAddr addrOf
  rw [← h]
  unfold addressedMask
  ext k hk
  rcases halfIndex_cases hk with h|h|h|h|h|h|h|h|h|h|h|h|h|h|h|h <;> subst h <;> simp [BitVec.getElem_shiftLeft]

/-- A frame has 18 bytes (R99). -/
@[simp] theorem frameBytes_length (c d : Half) : (frameBytes c d).length = 18 := by
  simp [frameBytes, txSlots, slotBytes]

/-- A 16-bit quantity in a slot is its two bytes and a zero byte (R81). -/
@[simp] theorem slotBytes_slotOf (v : Half) : slotBytes (slotOf v) = [v.extractLsb' 8 8, v.extractLsb' 0 8, 0] := by
  simp only [slotBytes, slotOf, List.cons.injEq, and_true]
  refine ⟨?_, ?_, ?_⟩ <;> apply BitVec.eq_of_getLsbD_eq <;> intro k hk <;>
    simp only [BitVec.getLsbD_extractLsb', BitVec.getLsbD_append, BitVec.getLsbD_zero] <;> grind

/-- An empty slot is three zero bytes. -/
@[simp] theorem slotBytes_zero : slotBytes 0#24 = [0, 0, 0] := by decide

/-- A 16-bit value is its two bytes. -/
@[simp] theorem half_bytes (v : Half) : v.extractLsb' 8 8 ++ v.extractLsb' 0 8 = v := by
  apply BitVec.eq_of_getLsbD_eq
  intro k hk
  simp only [BitVec.getLsbD_extractLsb', BitVec.getLsbD_append]
  grind

end Sys2Proof
end

