-- ==== Sys2Proof/Laws/State.lean ====
section
/-! SUPPORT. One lemma per field per update of the state, true by rfl. -/
namespace Sys2Proof.Machine

variable (s : State)

/-! `endFlags`. -/
@[simp] theorem endFlags_req (k : Bool) (e : BitVec 3) : (endFlags k e s).req = s.req := rfl
@[simp] theorem endFlags_lat (k : Bool) (e : BitVec 3) : (endFlags k e s).lat = s.lat := rfl
@[simp] theorem endFlags_tmpOld (k : Bool) (e : BitVec 3) : (endFlags k e s).tmpOld = s.tmpOld := rfl
@[simp] theorem endFlags_tmpNew (k : Bool) (e : BitVec 3) : (endFlags k e s).tmpNew = s.tmpNew := rfl
@[simp] theorem endFlags_rx (k : Bool) (e : BitVec 3) : (endFlags k e s).rx = s.rx := rfl
@[simp] theorem endFlags_rdata (k : Bool) (e : BitVec 3) : (endFlags k e s).rdata = s.rdata := rfl
@[simp] theorem endFlags_sample (k : Bool) (e : BitVec 3) : (endFlags k e s).sample = s.sample := rfl
@[simp] theorem endFlags_volt (k : Bool) (e : BitVec 3) : (endFlags k e s).volt = s.volt := rfl
@[simp] theorem endFlags_gas (k : Bool) (e : BitVec 3) : (endFlags k e s).gas = s.gas := rfl
@[simp] theorem endFlags_drdyv (k : Bool) (e : BitVec 3) : (endFlags k e s).drdyv = s.drdyv := rfl
@[simp] theorem endFlags_busy (k : Bool) (e : BitVec 3) : (endFlags k e s).busy = false := rfl
@[simp] theorem endFlags_done (k : Bool) (e : BitVec 3) : (endFlags k e s).done = true := rfl
@[simp] theorem endFlags_ok (k : Bool) (e : BitVec 3) : (endFlags k e s).ok = k := rfl
@[simp] theorem endFlags_err (k : Bool) (e : BitVec 3) : (endFlags k e s).err = e := rfl
@[simp] theorem endFlags_seq (k : Bool) (e : BitVec 3) : (endFlags k e s).seq = SeqState.idle := rfl
@[simp] theorem endFlags_bus (k : Bool) (e : BitVec 3) : (endFlags k e s).bus = s.bus := rfl
@[simp] theorem endFlags_cfg (k : Bool) (e : BitVec 3) : (endFlags k e s).cfg = s.cfg := rfl
@[simp] theorem endFlags_host (k : Bool) (e : BitVec 3) : (endFlags k e s).host = s.host := rfl

/-! `startPulse`. -/
@[simp] theorem startPulse_req : (startPulse s).req = s.req := rfl
@[simp] theorem startPulse_lat : (startPulse s).lat = s.req := rfl
@[simp] theorem startPulse_tmpOld : (startPulse s).tmpOld = s.tmpOld := rfl
@[simp] theorem startPulse_tmpNew : (startPulse s).tmpNew = s.tmpNew := rfl
@[simp] theorem startPulse_rx : (startPulse s).rx = s.rx := rfl
@[simp] theorem startPulse_rdata : (startPulse s).rdata = s.rdata := rfl
@[simp] theorem startPulse_sample : (startPulse s).sample = s.sample := rfl
@[simp] theorem startPulse_volt : (startPulse s).volt = s.volt := rfl
@[simp] theorem startPulse_gas : (startPulse s).gas = s.gas := rfl
@[simp] theorem startPulse_drdyv : (startPulse s).drdyv = s.drdyv := rfl
@[simp] theorem startPulse_busy : (startPulse s).busy = true := rfl
@[simp] theorem startPulse_done : (startPulse s).done = false := rfl
@[simp] theorem startPulse_ok : (startPulse s).ok = false := rfl
@[simp] theorem startPulse_err : (startPulse s).err = 0 := rfl
@[simp] theorem startPulse_seq : (startPulse s).seq = ⟨true, 0, 0⟩ := rfl
@[simp] theorem startPulse_bus : (startPulse s).bus = s.bus := rfl
@[simp] theorem startPulse_cfg : (startPulse s).cfg = s.cfg := rfl
@[simp] theorem startPulse_host : (startPulse s).host = s.host := rfl

/-! `readDrdy`. -/
@[simp] theorem readDrdy_req : (readDrdy s).req = s.req := rfl
@[simp] theorem readDrdy_lat : (readDrdy s).lat = s.lat := rfl
@[simp] theorem readDrdy_tmpOld : (readDrdy s).tmpOld = s.tmpOld := rfl
@[simp] theorem readDrdy_tmpNew : (readDrdy s).tmpNew = s.tmpNew := rfl
@[simp] theorem readDrdy_rx : (readDrdy s).rx = s.rx := rfl
@[simp] theorem readDrdy_rdata : (readDrdy s).rdata = s.rdata := rfl
@[simp] theorem readDrdy_sample : (readDrdy s).sample = s.sample := rfl
@[simp] theorem readDrdy_volt : (readDrdy s).volt = s.volt := rfl
@[simp] theorem readDrdy_gas : (readDrdy s).gas = s.gas := rfl
@[simp] theorem readDrdy_drdyv : (readDrdy s).drdyv = nextLevel s.bus := rfl
@[simp] theorem readDrdy_busy : (readDrdy s).busy = s.busy := rfl
@[simp] theorem readDrdy_done : (readDrdy s).done = s.done := rfl
@[simp] theorem readDrdy_ok : (readDrdy s).ok = s.ok := rfl
@[simp] theorem readDrdy_err : (readDrdy s).err = s.err := rfl
@[simp] theorem readDrdy_seq : (readDrdy s).seq = s.seq := rfl
@[simp] theorem readDrdy_bus : (readDrdy s).bus = readLevel s.bus := rfl
@[simp] theorem readDrdy_cfg : (readDrdy s).cfg = s.cfg := rfl
@[simp] theorem readDrdy_host : (readDrdy s).host = s.host := rfl

/-! `frame`. -/
@[simp] theorem frame_req (c d : Half) : (frame c d s).req = s.req := rfl
@[simp] theorem frame_lat (c d : Half) : (frame c d s).lat = s.lat := rfl
@[simp] theorem frame_tmpOld (c d : Half) : (frame c d s).tmpOld = s.tmpOld := rfl
@[simp] theorem frame_tmpNew (c d : Half) : (frame c d s).tmpNew = s.tmpNew := rfl
@[simp] theorem frame_rx (c d : Half) : (frame c d s).rx = rxOf (frameReceived s.cfg c d s.bus) := rfl
@[simp] theorem frame_rdata (c d : Half) : (frame c d s).rdata = s.rdata := rfl
@[simp] theorem frame_sample (c d : Half) : (frame c d s).sample = s.sample := rfl
@[simp] theorem frame_volt (c d : Half) : (frame c d s).volt = s.volt := rfl
@[simp] theorem frame_gas (c d : Half) : (frame c d s).gas = s.gas := rfl
@[simp] theorem frame_drdyv (c d : Half) : (frame c d s).drdyv = s.drdyv := rfl
@[simp] theorem frame_busy (c d : Half) : (frame c d s).busy = s.busy := rfl
@[simp] theorem frame_done (c d : Half) : (frame c d s).done = s.done := rfl
@[simp] theorem frame_ok (c d : Half) : (frame c d s).ok = s.ok := rfl
@[simp] theorem frame_err (c d : Half) : (frame c d s).err = s.err := rfl
@[simp] theorem frame_seq (c d : Half) : (frame c d s).seq = s.seq := rfl
@[simp] theorem frame_bus (c d : Half) : (frame c d s).bus = frameBus s.cfg c d s.bus := rfl
@[simp] theorem frame_cfg (c d : Half) : (frame c d s).cfg = s.cfg := rfl
@[simp] theorem frame_host (c d : Half) : (frame c d s).host = s.host := rfl

/-! `devRead`. -/
@[simp] theorem devRead_req (a : Addr) : (devRead a s).req = s.req := rfl
@[simp] theorem devRead_lat (a : Addr) : (devRead a s).lat = s.lat := rfl
@[simp] theorem devRead_tmpOld (a : Addr) : (devRead a s).tmpOld = s.tmpOld := rfl
@[simp] theorem devRead_tmpNew (a : Addr) : (devRead a s).tmpNew = s.tmpNew := rfl
@[simp] theorem devRead_rdata (a : Addr) : (devRead a s).rdata = s.rdata := rfl
@[simp] theorem devRead_sample (a : Addr) : (devRead a s).sample = s.sample := rfl
@[simp] theorem devRead_volt (a : Addr) : (devRead a s).volt = s.volt := rfl
@[simp] theorem devRead_gas (a : Addr) : (devRead a s).gas = s.gas := rfl
@[simp] theorem devRead_drdyv (a : Addr) : (devRead a s).drdyv = s.drdyv := rfl
@[simp] theorem devRead_busy (a : Addr) : (devRead a s).busy = s.busy := rfl
@[simp] theorem devRead_done (a : Addr) : (devRead a s).done = s.done := rfl
@[simp] theorem devRead_ok (a : Addr) : (devRead a s).ok = s.ok := rfl
@[simp] theorem devRead_err (a : Addr) : (devRead a s).err = s.err := rfl
@[simp] theorem devRead_seq (a : Addr) : (devRead a s).seq = s.seq := rfl
@[simp] theorem devRead_cfg (a : Addr) : (devRead a s).cfg = s.cfg := rfl
@[simp] theorem devRead_host (a : Addr) : (devRead a s).host = s.host := rfl

/-! `devWrite`. -/
@[simp] theorem devWrite_req (a : Addr) (v : Half) : (devWrite a v s).req = s.req := rfl
@[simp] theorem devWrite_lat (a : Addr) (v : Half) : (devWrite a v s).lat = s.lat := rfl
@[simp] theorem devWrite_tmpOld (a : Addr) (v : Half) : (devWrite a v s).tmpOld = s.tmpOld := rfl
@[simp] theorem devWrite_tmpNew (a : Addr) (v : Half) : (devWrite a v s).tmpNew = s.tmpNew := rfl
@[simp] theorem devWrite_rdata (a : Addr) (v : Half) : (devWrite a v s).rdata = s.rdata := rfl
@[simp] theorem devWrite_sample (a : Addr) (v : Half) : (devWrite a v s).sample = s.sample := rfl
@[simp] theorem devWrite_volt (a : Addr) (v : Half) : (devWrite a v s).volt = s.volt := rfl
@[simp] theorem devWrite_gas (a : Addr) (v : Half) : (devWrite a v s).gas = s.gas := rfl
@[simp] theorem devWrite_drdyv (a : Addr) (v : Half) : (devWrite a v s).drdyv = s.drdyv := rfl
@[simp] theorem devWrite_busy (a : Addr) (v : Half) : (devWrite a v s).busy = s.busy := rfl
@[simp] theorem devWrite_done (a : Addr) (v : Half) : (devWrite a v s).done = s.done := rfl
@[simp] theorem devWrite_ok (a : Addr) (v : Half) : (devWrite a v s).ok = s.ok := rfl
@[simp] theorem devWrite_err (a : Addr) (v : Half) : (devWrite a v s).err = s.err := rfl
@[simp] theorem devWrite_seq (a : Addr) (v : Half) : (devWrite a v s).seq = s.seq := rfl
@[simp] theorem devWrite_cfg (a : Addr) (v : Half) : (devWrite a v s).cfg = s.cfg := rfl
@[simp] theorem devWrite_host (a : Addr) (v : Half) : (devWrite a v s).host = s.host := rfl

/-! `takeResponse`. -/
@[simp] theorem takeResponse_req : (takeResponse s).req = s.req := rfl
@[simp] theorem takeResponse_lat : (takeResponse s).lat = s.lat := rfl
@[simp] theorem takeResponse_tmpOld : (takeResponse s).tmpOld = s.tmpOld := rfl
@[simp] theorem takeResponse_tmpNew : (takeResponse s).tmpNew = s.tmpNew := rfl
@[simp] theorem takeResponse_rx : (takeResponse s).rx = s.rx := rfl
@[simp] theorem takeResponse_rdata : (takeResponse s).rdata = response s := rfl
@[simp] theorem takeResponse_sample : (takeResponse s).sample = s.sample := rfl
@[simp] theorem takeResponse_volt : (takeResponse s).volt = s.volt := rfl
@[simp] theorem takeResponse_gas : (takeResponse s).gas = s.gas := rfl
@[simp] theorem takeResponse_drdyv : (takeResponse s).drdyv = s.drdyv := rfl
@[simp] theorem takeResponse_busy : (takeResponse s).busy = s.busy := rfl
@[simp] theorem takeResponse_done : (takeResponse s).done = s.done := rfl
@[simp] theorem takeResponse_ok : (takeResponse s).ok = s.ok := rfl
@[simp] theorem takeResponse_err : (takeResponse s).err = s.err := rfl
@[simp] theorem takeResponse_seq : (takeResponse s).seq = s.seq := rfl
@[simp] theorem takeResponse_bus : (takeResponse s).bus = s.bus := rfl
@[simp] theorem takeResponse_cfg : (takeResponse s).cfg = s.cfg := rfl
@[simp] theorem takeResponse_host : (takeResponse s).host = s.host := rfl

/-! `captureOld`. -/
@[simp] theorem captureOld_req (v m : Half) : (captureOld v m s).req = s.req := rfl
@[simp] theorem captureOld_lat (v m : Half) : (captureOld v m s).lat = s.lat := rfl
@[simp] theorem captureOld_tmpOld (v m : Half) : (captureOld v m s).tmpOld = response s := rfl
@[simp] theorem captureOld_tmpNew (v m : Half) : (captureOld v m s).tmpNew = merge (response s) v m := rfl
@[simp] theorem captureOld_rx (v m : Half) : (captureOld v m s).rx = s.rx := rfl
@[simp] theorem captureOld_rdata (v m : Half) : (captureOld v m s).rdata = response s := rfl
@[simp] theorem captureOld_sample (v m : Half) : (captureOld v m s).sample = s.sample := rfl
@[simp] theorem captureOld_volt (v m : Half) : (captureOld v m s).volt = s.volt := rfl
@[simp] theorem captureOld_gas (v m : Half) : (captureOld v m s).gas = s.gas := rfl
@[simp] theorem captureOld_drdyv (v m : Half) : (captureOld v m s).drdyv = s.drdyv := rfl
@[simp] theorem captureOld_busy (v m : Half) : (captureOld v m s).busy = s.busy := rfl
@[simp] theorem captureOld_done (v m : Half) : (captureOld v m s).done = s.done := rfl
@[simp] theorem captureOld_ok (v m : Half) : (captureOld v m s).ok = s.ok := rfl
@[simp] theorem captureOld_err (v m : Half) : (captureOld v m s).err = s.err := rfl
@[simp] theorem captureOld_seq (v m : Half) : (captureOld v m s).seq = s.seq := rfl
@[simp] theorem captureOld_bus (v m : Half) : (captureOld v m s).bus = s.bus := rfl
@[simp] theorem captureOld_cfg (v m : Half) : (captureOld v m s).cfg = s.cfg := rfl
@[simp] theorem captureOld_host (v m : Half) : (captureOld v m s).host = s.host := rfl

/-! `takeLanes`. -/
@[simp] theorem takeLanes_req (l : Vector Byte 4) (n : Byte) : (takeLanes l n s).req = s.req := rfl
@[simp] theorem takeLanes_lat (l : Vector Byte 4) (n : Byte) : (takeLanes l n s).lat = s.lat := rfl
@[simp] theorem takeLanes_tmpOld (l : Vector Byte 4) (n : Byte) : (takeLanes l n s).tmpOld = s.tmpOld := rfl
@[simp] theorem takeLanes_tmpNew (l : Vector Byte 4) (n : Byte) : (takeLanes l n s).tmpNew = s.tmpNew := rfl
@[simp] theorem takeLanes_rx (l : Vector Byte 4) (n : Byte) : (takeLanes l n s).rx = s.rx := rfl
@[simp] theorem takeLanes_rdata (l : Vector Byte 4) (n : Byte) : (takeLanes l n s).rdata = s.rdata := rfl
@[simp] theorem takeLanes_sample (l : Vector Byte 4) (n : Byte) : (takeLanes l n s).sample =
    #v[laneValue s l n 0, laneValue s l n 1, laneValue s l n 2, laneValue s l n 3] := rfl
@[simp] theorem takeLanes_volt (l : Vector Byte 4) (n : Byte) : (takeLanes l n s).volt = s.volt := rfl
@[simp] theorem takeLanes_gas (l : Vector Byte 4) (n : Byte) : (takeLanes l n s).gas = s.gas := rfl
@[simp] theorem takeLanes_drdyv (l : Vector Byte 4) (n : Byte) : (takeLanes l n s).drdyv = s.drdyv := rfl
@[simp] theorem takeLanes_busy (l : Vector Byte 4) (n : Byte) : (takeLanes l n s).busy = s.busy := rfl
@[simp] theorem takeLanes_done (l : Vector Byte 4) (n : Byte) : (takeLanes l n s).done = s.done := rfl
@[simp] theorem takeLanes_ok (l : Vector Byte 4) (n : Byte) : (takeLanes l n s).ok = s.ok := rfl
@[simp] theorem takeLanes_err (l : Vector Byte 4) (n : Byte) : (takeLanes l n s).err = s.err := rfl
@[simp] theorem takeLanes_seq (l : Vector Byte 4) (n : Byte) : (takeLanes l n s).seq = s.seq := rfl
@[simp] theorem takeLanes_bus (l : Vector Byte 4) (n : Byte) : (takeLanes l n s).bus = s.bus := rfl
@[simp] theorem takeLanes_cfg (l : Vector Byte 4) (n : Byte) : (takeLanes l n s).cfg = s.cfg := rfl
@[simp] theorem takeLanes_host (l : Vector Byte 4) (n : Byte) : (takeLanes l n s).host = s.host := rfl

/-! `setLane0`. -/
@[simp] theorem setLane0_req (v : BitVec 32) : (setLane0 v s).req = s.req := rfl
@[simp] theorem setLane0_lat (v : BitVec 32) : (setLane0 v s).lat = s.lat := rfl
@[simp] theorem setLane0_tmpOld (v : BitVec 32) : (setLane0 v s).tmpOld = s.tmpOld := rfl
@[simp] theorem setLane0_tmpNew (v : BitVec 32) : (setLane0 v s).tmpNew = s.tmpNew := rfl
@[simp] theorem setLane0_rx (v : BitVec 32) : (setLane0 v s).rx = s.rx := rfl
@[simp] theorem setLane0_rdata (v : BitVec 32) : (setLane0 v s).rdata = s.rdata := rfl
@[simp] theorem setLane0_sample (v : BitVec 32) : (setLane0 v s).sample = s.sample.set 0 v := rfl
@[simp] theorem setLane0_volt (v : BitVec 32) : (setLane0 v s).volt = s.volt := rfl
@[simp] theorem setLane0_gas (v : BitVec 32) : (setLane0 v s).gas = s.gas := rfl
@[simp] theorem setLane0_drdyv (v : BitVec 32) : (setLane0 v s).drdyv = s.drdyv := rfl
@[simp] theorem setLane0_busy (v : BitVec 32) : (setLane0 v s).busy = s.busy := rfl
@[simp] theorem setLane0_done (v : BitVec 32) : (setLane0 v s).done = s.done := rfl
@[simp] theorem setLane0_ok (v : BitVec 32) : (setLane0 v s).ok = s.ok := rfl
@[simp] theorem setLane0_err (v : BitVec 32) : (setLane0 v s).err = s.err := rfl
@[simp] theorem setLane0_seq (v : BitVec 32) : (setLane0 v s).seq = s.seq := rfl
@[simp] theorem setLane0_bus (v : BitVec 32) : (setLane0 v s).bus = s.bus := rfl
@[simp] theorem setLane0_cfg (v : BitVec 32) : (setLane0 v s).cfg = s.cfg := rfl
@[simp] theorem setLane0_host (v : BitVec 32) : (setLane0 v s).host = s.host := rfl

/-! `takeVolt`. -/
@[simp] theorem takeVolt_req (v : BitVec 32) : (takeVolt v s).req = s.req := rfl
@[simp] theorem takeVolt_lat (v : BitVec 32) : (takeVolt v s).lat = s.lat := rfl
@[simp] theorem takeVolt_tmpOld (v : BitVec 32) : (takeVolt v s).tmpOld = s.tmpOld := rfl
@[simp] theorem takeVolt_tmpNew (v : BitVec 32) : (takeVolt v s).tmpNew = s.tmpNew := rfl
@[simp] theorem takeVolt_rx (v : BitVec 32) : (takeVolt v s).rx = s.rx := rfl
@[simp] theorem takeVolt_rdata (v : BitVec 32) : (takeVolt v s).rdata = s.rdata := rfl
@[simp] theorem takeVolt_sample (v : BitVec 32) : (takeVolt v s).sample = s.sample := rfl
@[simp] theorem takeVolt_volt (v : BitVec 32) : (takeVolt v s).volt = scale64 v s.cfg.fsUv := rfl
@[simp] theorem takeVolt_gas (v : BitVec 32) : (takeVolt v s).gas = s.gas := rfl
@[simp] theorem takeVolt_drdyv (v : BitVec 32) : (takeVolt v s).drdyv = s.drdyv := rfl
@[simp] theorem takeVolt_busy (v : BitVec 32) : (takeVolt v s).busy = s.busy := rfl
@[simp] theorem takeVolt_done (v : BitVec 32) : (takeVolt v s).done = s.done := rfl
@[simp] theorem takeVolt_ok (v : BitVec 32) : (takeVolt v s).ok = s.ok := rfl
@[simp] theorem takeVolt_err (v : BitVec 32) : (takeVolt v s).err = s.err := rfl
@[simp] theorem takeVolt_seq (v : BitVec 32) : (takeVolt v s).seq = s.seq := rfl
@[simp] theorem takeVolt_bus (v : BitVec 32) : (takeVolt v s).bus = s.bus := rfl
@[simp] theorem takeVolt_cfg (v : BitVec 32) : (takeVolt v s).cfg = s.cfg := rfl
@[simp] theorem takeVolt_host (v : BitVec 32) : (takeVolt v s).host = s.host := rfl

/-! `takeGas`. -/
@[simp] theorem takeGas_req : (takeGas s).req = s.req := rfl
@[simp] theorem takeGas_lat : (takeGas s).lat = s.lat := rfl
@[simp] theorem takeGas_tmpOld : (takeGas s).tmpOld = s.tmpOld := rfl
@[simp] theorem takeGas_tmpNew : (takeGas s).tmpNew = s.tmpNew := rfl
@[simp] theorem takeGas_rx : (takeGas s).rx = s.rx := rfl
@[simp] theorem takeGas_rdata : (takeGas s).rdata = s.rdata := rfl
@[simp] theorem takeGas_sample : (takeGas s).sample = s.sample := rfl
@[simp] theorem takeGas_volt : (takeGas s).volt = s.volt := rfl
@[simp] theorem takeGas_gas : (takeGas s).gas =
    if fits64 (gasInt s.cfg s.volt.toInt) then BitVec.ofInt 64 (gasInt s.cfg s.volt.toInt)
      else Config.freeGas s.bus.draws := rfl
@[simp] theorem takeGas_drdyv : (takeGas s).drdyv = s.drdyv := rfl
@[simp] theorem takeGas_busy : (takeGas s).busy = s.busy := rfl
@[simp] theorem takeGas_done : (takeGas s).done = s.done := rfl
@[simp] theorem takeGas_ok : (takeGas s).ok = s.ok := rfl
@[simp] theorem takeGas_err : (takeGas s).err = s.err := rfl
@[simp] theorem takeGas_seq : (takeGas s).seq = s.seq := rfl
@[simp] theorem takeGas_bus : (takeGas s).bus = { s.bus with draws := s.bus.draws + 1 } := rfl
@[simp] theorem takeGas_cfg : (takeGas s).cfg = s.cfg := rfl
@[simp] theorem takeGas_host : (takeGas s).host = s.host := rfl

/-! The collaborator primitives. -/
@[simp] theorem setCS_cs (p : Params) (k : Bool) (b : Bus) : (setCS p k b).cs = k := rfl
@[simp] theorem setCS_env (p : Params) (k : Bool) (b : Bus) : (setCS p k b).env = envAfterCS p k b.env := rfl
@[simp] theorem setCS_trace (p : Params) (k : Bool) (b : Bus) : (setCS p k b).trace = b.trace ++ [.cs k] := rfl
@[simp] theorem setCS_draws (p : Params) (k : Bool) (b : Bus) : (setCS p k b).draws = b.draws := rfl
@[simp] theorem xchg_cs (o : Byte) (b : Bus) : (xchg o b).cs = b.cs := rfl
@[simp] theorem xchg_env (o : Byte) (b : Bus) : (xchg o b).env = envAfterXchg o b.env := rfl
@[simp] theorem xchg_trace (o : Byte) (b : Bus) : (xchg o b).trace = b.trace ++ [.x o (nextByte b)] := rfl
@[simp] theorem xchg_draws (o : Byte) (b : Bus) : (xchg o b).draws = b.draws + 1 := rfl
@[simp] theorem readLevel_cs (b : Bus) : (readLevel b).cs = b.cs := rfl
@[simp] theorem readLevel_env (b : Bus) : (readLevel b).env = { b.env with levels := b.env.levels.tail } := rfl
@[simp] theorem readLevel_trace (b : Bus) : (readLevel b).trace = b.trace ++ [.dr (nextLevel b)] := rfl
@[simp] theorem readLevel_draws (b : Bus) : (readLevel b).draws = b.draws + 1 := rfl

/-! Success and failure are `endFlags`. -/
@[simp] theorem succeed_eq : succeed s = endFlags true 0 s := rfl
@[simp] theorem fail_eq (x : FailClass) : fail x s = endFlags false (failCode x) s := rfl

/-- RDCH's result goes to lane 0 (R146). -/
@[simp] theorem takeChannel_eq (i : Byte) : takeChannel i s = setLane0 (decode32 (channelWord s.rx i)) s := rfl

end Sys2Proof.Machine
end

