-- ==== Sys2Proof/Laws/Ops.lean ====
section
/-! SUPPORT. What each shared operation can do, said once: the slot exchange, the frame, the register transactions. -/
namespace Sys2Proof.Machine

/-- With a valid transport a bus operation runs (log 8). -/
theorem withTransport_valid {s : State} (h : s.cfg.transportValid = true) (k : State → State) :
    withTransport s k = .next (k s) := if_pos h

/-- Without one it is refused. -/
theorem withTransport_invalid {s : State} (h : s.cfg.transportValid = false) (k : State → State) :
    withTransport s k = .refused .transportInvalid := by simp [withTransport, h]

/-! The frame. -/

section Slot
variable (w : Slot) (b : Bus)

@[simp] theorem slotBus_cs : (slotBus w b).cs = b.cs := rfl
@[simp] theorem slotBus_draws : (slotBus w b).draws = b.draws + 3 := rfl
theorem slotBus_trace : (slotBus w b).trace = b.trace ++ [.x (w.extractLsb' 16 8) (nextByte b),
    .x (w.extractLsb' 8 8) (nextByte (xchg (w.extractLsb' 16 8) b)),
    .x (w.extractLsb' 0 8) (nextByte (xchg (w.extractLsb' 8 8) (xchg (w.extractLsb' 16 8) b)))] := by
  simp [slotBus]

end Slot

/-- Six slots exchange 18 bytes, most significant first, and each slot's three make its container. -/
theorem exchangeSlots_spec (txs : List Slot) (b : Bus) :
    ∃ is : List Byte, is.length = 3 * txs.length ∧
      (exchangeSlots txs b).2.trace = b.trace ++ List.zipWith .x (txs.flatMap slotBytes) is ∧
      (exchangeSlots txs b).2.draws = b.draws + 3 * txs.length ∧
      (exchangeSlots txs b).2.cs = b.cs ∧
      (exchangeSlots txs b).1 = (List.range txs.length).map (slotWord is) := by
  induction txs generalizing b with
  | nil => exact ⟨[], by simp [exchangeSlots]⟩
  | cons tx txs ih =>
    obtain ⟨is, hl, ht, hd, hc, hr⟩ := ih (slotBus tx b)
    refine ⟨nextByte b :: nextByte (xchg (tx.extractLsb' 16 8) b) ::
      nextByte (xchg (tx.extractLsb' 8 8) (xchg (tx.extractLsb' 16 8) b)) :: is, ?_, ?_, ?_, ?_, ?_⟩
    · simp [hl]; omega
    · simp [exchangeSlots, ht, slotBus_trace, slotBytes]
    · simp [exchangeSlots, hd]; omega
    · simp [exchangeSlots, hc]
    · rw [List.length_cons, List.range_succ_eq_map]
      simp only [exchangeSlots, hr, List.map_cons, List.map_map, List.cons.injEq]
      refine ⟨rfl, List.map_congr_left fun k _ => ?_⟩
      simp [slotWord, byteAt, Nat.mul_succ]

@[simp] theorem frameBus_cs (p : Params) (c d : Half) (b : Bus) : (frameBus p c d b).cs = false := rfl

/-- A frame is 18 received bytes: its 20 events, the six containers and 18 draws (R111, R114). -/
theorem frameBus_spec (p : Params) (c d : Half) (b : Bus) :
    ∃ is : List Byte, is.length = 18 ∧ (frameBus p c d b).trace = b.trace ++ frameEvents c d is ∧
      rxOf (frameReceived p c d b) = packFrame is ∧ (frameBus p c d b).draws = b.draws + 18 := by
  obtain ⟨is, hl, ht, hd, -, hr⟩ := exchangeSlots_spec (txSlots c d) (setCS p true b)
  refine ⟨is, by simpa [txSlots] using hl, ?_, ?_, ?_⟩
  · simp [frameBus, ht, frameEvents, frameBytes]
  · simp only [frameReceived, hr]; rfl
  · simp only [frameBus, setCS_draws, hd]; rfl

/-- `DevRead` is two frames, the second a NULL frame (R126). -/
theorem devRead_spec (a : Addr) (s : State) :
    ∃ is1 is2 : List Byte, twoFrames (withAddr s.cfg.opRead a) 0#16 is1 is2 s (devRead a s) := by
  obtain ⟨is1, h1, h2, -, -⟩ := frameBus_spec s.cfg (withAddr s.cfg.opRead a) 0#16 s.bus
  obtain ⟨is2, h3, h4, h5, -⟩ :=
    frameBus_spec s.cfg s.cfg.opNull 0#16 (frameBus s.cfg (withAddr s.cfg.opRead a) 0#16 s.bus)
  exact ⟨is1, is2, h1, h3, by simp [devRead, h4, h2], h5, rfl⟩

/-- `DevWrite` is two frames, the first with the data, the second a NULL frame (R128). -/
theorem devWrite_spec (a : Addr) (v : Half) (s : State) :
    ∃ is1 is2 : List Byte, twoFrames (withAddr s.cfg.opWrite a) v is1 is2 s (devWrite a v s) := by
  obtain ⟨is1, h1, h2, -, -⟩ := frameBus_spec s.cfg (withAddr s.cfg.opWrite a) v s.bus
  obtain ⟨is2, h3, h4, h5, -⟩ :=
    frameBus_spec s.cfg s.cfg.opNull 0#16 (frameBus s.cfg (withAddr s.cfg.opWrite a) v s.bus)
  exact ⟨is1, is2, h1, h3, by simp [devWrite, h4, h2], h5, rfl⟩

/-- The response is the first two received bytes (R87). -/
theorem response_of_rx {s : State} {is : List Byte} (h : s.rx = packFrame is) : response s = respOf is := by
  simp only [response, h, packFrame, respOf, slotWord, container]
  show BitVec.extractLsb' 16 16 (byteAt is 0 ++ byteAt is 1 ++ byteAt is 2 ++ 0#8) = _
  apply BitVec.eq_of_getLsbD_eq
  intro k hk
  simp only [BitVec.getLsbD_extractLsb', BitVec.getLsbD_append]
  grind

/-- The acknowledgement compare decides how a write ends (R128, R211). -/
theorem concludeWrite_ack {a : Addr} {s : State} (h : response s = withAddr s.cfg.opWack a) :
    concludeWrite a s = succeed s := by
  simp [concludeWrite, ackMatches, h]

theorem concludeWrite_noAck {a : Addr} {s : State} (h : response s ≠ withAddr s.cfg.opWack a) :
    concludeWrite a s = fail .ack s := by
  simp [concludeWrite, ackMatches, h]

/-- The identity compare decides how an identity read ends (R170, R208). -/
theorem concludeId_match {s : State} (h : s.rdata &&& s.cfg.idMask = s.cfg.idExpect &&& s.cfg.idMask) :
    concludeId s = succeed s := by
  simp [concludeId, idMatches, h]

theorem concludeId_mismatch {s : State} (h : s.rdata &&& s.cfg.idMask ≠ s.cfg.idExpect &&& s.cfg.idMask) :
    concludeId s = fail .id s := by
  simp [concludeId, idMatches, h]

/-- A masked write is four frames, with the merge between the second and the third (R131). -/
theorem maskedWrite_spec (a : Addr) (v m : Half) (s : State) : maskedWriteDone a v m s (maskedWrite a v m s) := by
  obtain ⟨is1, is2, h1, h2, h3, h4, h5⟩ := devRead_spec a s
  have hc := response_of_rx h4
  obtain ⟨is3, is4, k1, k2, k3, k4, k5⟩ :=
    devWrite_spec a (merge (response (devRead a s)) v m) (captureOld v m (devRead a s))
  have kc := response_of_rx k4
  refine ⟨is1, is2, is3, is4, h1, h2, k1, k2, ?_⟩
  simp only [captureOld_bus, captureOld_cfg, devRead_cfg, hc] at k3 k4 k5 kc
  rw [show respOf is2 &&& ~~~m ||| v &&& m = merge (respOf is2) v m from rfl]
  simp only [maskedWrite, captureOld_tmpNew, hc]
  by_cases hr : respOf is4 = withAddr s.cfg.opWack a
  · rw [concludeWrite_ack (by simpa [kc] using hr)]
    simp [k3, k4, k5, hc, hr, h3, endedOk, endedFail, ended, sameInputs, sameSamples]
  · rw [concludeWrite_noAck (by simpa [kc] using hr)]
    simp [k3, k4, k5, hc, hr, h3, endedOk, endedFail, ended, sameInputs, sameSamples]

/-- An operation whose check fails ends with PARAM and changes only the status fields (60_exceptions.md R210, R212). -/
theorem failsParam_of {i : Instr} {s : State} (h : exec i s = .next (fail .param s)) : failsParam i s := by
  refine ⟨_, h, ?_, ?_⟩ <;>
    simp [onlyFlags, sameInputs, sameTemps, sameSamples, noBus, endedFail, ended]

end Sys2Proof.Machine
end

