-- ==== Sys2Proof/Laws/Environment.lean ====
section
/-! SUPPORT. A frame seen from the environment: the trace it leaves the bus in, and what FDEV answers and becomes
(20_memory.md R71, R72). -/
namespace Sys2Proof.Machine

/-- The bus discipline composes along a trace. -/
theorem busAfter_append (p : BusPhase) (a b : List Event) : busAfter p (a ++ b) = (busAfter p a).bind (busAfter · b) := by
  induction a generalizing p with
  | nil => rfl
  | cons e a ih =>
    simp only [List.cons_append, busAfter]
    cases busEvent p e with
    | none => rfl
    | some q => exact ih q

theorem busAfter_bytes (os is : List Byte) (n : Nat) (h : os.length = is.length) (h2 : n + is.length ≤ 18) :
    busAfter (.inFrame n) (List.zipWith .x os is) = some (.inFrame (n + is.length)) := by
  induction is generalizing os n with
  | nil => cases os <;> simp_all [busAfter]
  | cons i is ih =>
    cases os with
    | nil => simp at h
    | cons o os =>
      simp at h h2
      simp only [List.zipWith_cons_cons, busAfter, busEvent]
      rw [if_pos (by omega), show n + (i :: is).length = (n + 1) + is.length by simp; omega]
      exact ih os (n + 1) h (by omega)

/-- A whole frame leaves the bus free (40_frame_transport.md R114). -/
theorem busAfter_frame (c d : Half) {is : List Byte} (h : is.length = 18) :
    busAfter .free (frameEvents c d is) = some .free := by
  simp only [frameEvents, busAfter_append]
  simp [busAfter, busEvent, busAfter_bytes (frameBytes c d) is 0 (by rw [frameBytes_length, h]) (by omega), h]

/-! FDEV. -/

theorem nextByte_fdev {b : Bus} {f : Fdev} (hd : b.env.dev = some f) (hb : f.got.length < 18) :
    nextByte b = byteAt (fdevBytes f) f.got.length := by
  have : (fdevBytes f).length = 18 := by simp [fdevBytes, fdevSlots, slotBytes]
  simp [nextByte, hd, byteAt, this, hb]

theorem xchg_fdev {b : Bus} {f : Fdev} (o : Byte) (hd : b.env.dev = some f) :
    (xchg o b).env.dev = some { f with got := f.got ++ [o] } := by
  simp [xchg, envAfterXchg, hd]

/-- Slots exchanged with FDEV: it gathers the bytes sent and answers its own at the same places. -/
theorem exchangeSlots_fdev (txs : List Slot) (b : Bus) (f : Fdev) (hd : b.env.dev = some f)
    (hl : f.got.length + 3 * txs.length ≤ 18) :
    (exchangeSlots txs b).2.env.dev = some { f with got := f.got ++ txs.flatMap slotBytes } ∧
    (exchangeSlots txs b).1 = (List.range txs.length).map fun k =>
      container (byteAt (fdevBytes f) (f.got.length + 3 * k)) (byteAt (fdevBytes f) (f.got.length + 3 * k + 1))
        (byteAt (fdevBytes f) (f.got.length + 3 * k + 2)) := by
  induction txs generalizing b f with
  | nil => simp [exchangeSlots, hd]
  | cons tx txs ih =>
    simp at hl
    have n0 := nextByte_fdev hd (by omega)
    have d1 := xchg_fdev (tx.extractLsb' 16 8) hd
    have n1 := nextByte_fdev d1 (by simp; omega)
    have d2 := xchg_fdev (tx.extractLsb' 8 8) d1
    have n2 := nextByte_fdev d2 (by simp; omega)
    have d3 := xchg_fdev (tx.extractLsb' 0 8) d2
    obtain ⟨r1, r2⟩ := ih (slotBus tx b) _ d3 (by simp; omega)
    refine ⟨?_, ?_⟩
    · simp only [exchangeSlots, r1]; simp [slotBytes]
    · rw [List.length_cons, List.range_succ_eq_map]
      simp only [exchangeSlots, r2, List.map_cons, List.map_map, List.cons.injEq]
      refine ⟨?_, List.map_congr_left fun k _ => ?_⟩
      · simp only [slotReceived, n0, n1, n2]; simp [fdevBytes, fdevSlots]
      · simp only [Function.comp, List.length_append, List.length_cons, List.length_nil]
        have e : ∀ g : List Byte, fdevBytes { f with got := g } = fdevBytes f := fun g => rfl
        rw [e]
        congr 2 <;> omega

/-- A frame under FDEV: the response is the one it held, and it reacts to the two words (R71, R72). -/
theorem frame_fdev (c d : Half) (s : State) (f : Fdev) (hd : s.bus.env.dev = some f) :
    (frame c d s).bus.env.dev = some (fdevReact s.cfg c d { f with got := [] }) ∧ response (frame c d s) = f.resp := by
  obtain ⟨r1, r2⟩ := exchangeSlots_fdev (txSlots c d) (setCS s.cfg true s.bus) { f with got := [] }
    (by simp [setCS, envAfterCS, hd]) (by simp [txSlots])
  constructor
  · show (envAfterCS s.cfg false (exchangeSlots (txSlots c d) (setCS s.cfg true s.bus)).2.env).dev = _
    simp only [envAfterCS, r1, Option.map_some, List.nil_append]
    have : List.flatMap slotBytes (txSlots c d) = frameBytes c d := rfl
    simp only [fdevEndFrame, this, frameBytes_length, if_true, Bool.false_eq_true, if_false]
    have e : frameBytes c d = [c.extractLsb' 8 8, c.extractLsb' 0 8, 0, d.extractLsb' 8 8, d.extractLsb' 0 8,
        0, 0, 0, 0, 0, 0, 0, 0, 0, 0, 0, 0, 0] := by
      simp [frameBytes, txSlots]
    simp [e]
  · have hrx : (frame c d s).rx = packFrame (fdevBytes f) := by
      show rxOf (exchangeSlots (txSlots c d) (setCS s.cfg true s.bus)).1 = _
      rw [r2]
      simp only [show fdevBytes { f with got := [] } = fdevBytes f from rfl]
      simp [txSlots, rxOf, packFrame, slotWord]
    rw [response_of_rx hrx]
    have : slotBytes (slotOf f.resp) = _ := slotBytes_slotOf f.resp
    simp [respOf, byteAt, fdevBytes, fdevSlots]

end Sys2Proof.Machine
end

