-- ==== Sys2Proof/Laws/Exec.lean ====
section
/-! SUPPORT. An operation whose checks pass, as one function of the state: later proofs cite `exec_eq_effect` and
need not go through the checks of each meaning. -/
namespace Sys2Proof.Machine

/-- A lane in use above 3 is found (R144). -/
theorem badLane_of {l : Vector Byte 4} {n : Byte} (h : ¬ ∀ j : Fin 4, j.val < n.toNat → l[j].toNat ≤ 3) :
    badLane l n = true := by
  push Not at h
  obtain ⟨j, h1, h2⟩ := h
  match j with
  | 0 | 1 | 2 | 3 => simp at h1 h2; simp [badLane, h1, h2]

/-- Lanes in use within 3 pass (R144). -/
theorem not_badLane_of {l : Vector Byte 4} {n : Byte} (hl : ∀ j : Fin 4, j.val < n.toNat → l[j].toNat ≤ 3) :
    badLane l n = false := by
  have h0 := hl 0; have h1 := hl 1; have h2 := hl 2; have h3 := hl 3
  simp at h0 h1 h2 h3
  simp [badLane]
  grind

/-- RDCHS's operand ranges by lane (30_encoding.md R96). -/
theorem wellFormed_rdchs (p : Params) (l : Vector Byte 4) (n : Byte) :
    (Instr.rdchs l n).wellFormed p = true ↔ n.toNat ≤ 4 ∧ ∀ j : Fin 4, j.val < n.toNat → l[j].toNat ≤ 3 := by
  simp only [Instr.wellFormed, Bool.and_eq_true, decide_eq_true_eq, List.all_eq_true, List.mem_range]
  constructor
  · rintro ⟨h1, h2⟩
    refine ⟨h1, fun j hj => ?_⟩
    have := h2 j.val hj
    simpa using this
  · rintro ⟨h1, h2⟩
    refine ⟨h1, fun x hx => ?_⟩
    have := h2 ⟨x, by omega⟩ hx
    simpa [show x < 4 by omega] using this

/-- SETGAIN's operand ranges by channel (R96). -/
theorem wellFormed_setgain (p : Params) (g : Vector Byte 4) :
    (Instr.setgain g).wellFormed p = true ↔ g[0].toNat ≤ p.gainMax ∧ g[1].toNat ≤ p.gainMax ∧ g[2].toNat ≤ p.gainMax ∧
      g[3].toNat ≤ p.gainMax := by
  obtain ⟨⟨l⟩, hl⟩ := g
  match l, hl with
  | [a, b, c, d], _ => simp [Instr.wellFormed]

/-- The state an operation leads to when its checks pass. -/
def effect (i : Instr) (s : State) : State :=
  match i with
  | .null => succeed (frame s.cfg.opNull 0#16 s)
  | .reset => succeed (frame s.cfg.opReset 0#16 s)
  | .standby => succeed (frame s.cfg.opStandby 0#16 s)
  | .wakeup => succeed (frame s.cfg.opWakeup 0#16 s)
  | .lock => succeed (frame s.cfg.opLock 0#16 s)
  | .unlock => succeed (frame s.cfg.opUnlock 0#16 s)
  | .read a => succeed (frame (withAddr s.cfg.opRead a) 0#16 s)
  | .write a v => succeed (frame (withAddr s.cfg.opWrite a) v s)
  | .wack a => concludeWrite a (frame s.cfg.opNull 0#16 s)
  | .xframe c => succeed (frame c 0#16 s)
  | .cmd sel => succeed (frame (standaloneWord s.cfg sel) 0#16 s)
  | .rdreg a => succeed (takeResponse (devRead (addrBits a) s))
  | .wrreg a v => concludeWrite (addrBits a) (devWrite (addrBits a) v s)
  | .wrmask a v m => maskedWrite (addrBits a) v m s
  | .rdchs l n => succeed (takeLanes l n (frame s.cfg.opNull 0#16 s))
  | .rdch i => succeed (takeChannel i (frame s.cfg.opNull 0#16 s))
  | .rdvolt i =>
    succeed (takeVolt (takeChannel i (frame s.cfg.opNull 0#16 s)).sample[0] (takeChannel i (frame s.cfg.opNull 0#16 s)))
  | .drdy => succeed (readDrdy s)
  | .rdid | .begin => identify s
  | .setgain g => maskedWrite 0x04#6 (packGain g) 0xFFFF#16 s
  | .gchop en v => maskedWrite 0x06#6 (packChop en v) chopMask s
  | .setosr c => maskedWrite 0x03#6 (packField c s.cfg.osrLsb) s.cfg.osrMask s
  | .setpwr c => maskedWrite 0x03#6 (packField c s.cfg.pwrLsb) s.cfg.pwrMask s
  | .decode w => succeed (setLane0 (decode32 w) s)
  | .scale w => succeed (takeVolt w s)
  | .gasconv => succeed (takeGas s)

/-- Operands in range, the line for DRDY, and a transport for what calls it: the operation runs. -/
theorem exec_eq_effect (s : State) (i : Instr) (h : i.wellFormed s.cfg = true) (hd : i = .drdy → s.cfg.hasDrdy = true)
    (ht : s.cfg.transportValid = true ∨ callsOf i = 0) : exec i s = .next (effect i s) := by
  cases i
  case rdchs l n =>
    have hw := (wellFormed_rdchs s.cfg l n).mp h
    simp only [exec, execRdchs]
    rw [if_neg (by omega), if_neg (by simp [not_badLane_of hw.2])]
    exact withTransport_valid (ht.resolve_right (by simp [callsOf, framesOf])) _
  case setgain g =>
    have hw := (wellFormed_setgain s.cfg g).mp h
    simp only [exec, execSetgain]
    rw [if_neg (by omega)]
    exact withTransport_valid (ht.resolve_right (by simp [callsOf, framesOf])) _
  case gchop en d =>
    simp only [Instr.wellFormed, Bool.and_eq_true, decide_eq_true_eq] at h
    simp only [exec, execGchop]
    rw [if_neg (by omega), if_neg (by omega)]
    exact withTransport_valid (ht.resolve_right (by simp [callsOf, framesOf])) _
  case scale w =>
    simp only [Instr.wellFormed, Bool.and_eq_true, decide_eq_true_eq] at h
    simp only [exec, execScale]
    rw [if_neg (by omega)]; rfl
  case decode => rfl
  case gasconv => rfl
  all_goals replace ht := ht.resolve_right (by simp [callsOf, framesOf])
  case drdy => simp [exec, execDrdy, hd, withTransport_valid ht, effect]
  case begin => simp [exec, execBegin, ht, effect]
  all_goals simp [Instr.wellFormed] at h
  all_goals simp only [exec, execNull, execReset, execStandby, execWakeup, execLock, execUnlock, execRead, execWrite,
    execWack, execXframe, execCmd, execRdreg, execWrreg, execWrmask, execRdch, execRdvolt, execSetosr, execSetpwr, execRdid]
  all_goals first | exact withTransport_valid ht _ | (rw [if_neg (by omega)]; exact withTransport_valid ht _)

end Sys2Proof.Machine
end

