-- ==== Sys2Proof/Laws/Operands.lean ====
section
/-! SUPPORT. The sign extender and the channel lanes (42_sample_decode.md R140 to R146). -/
namespace Sys2Proof.Machine

/-- The address of a request operand is its low six bits (41_register_access.md R126). -/
theorem addrBits_eq (a : Byte) : addrBits a = a.setWidth 6 := rfl

/-- The arithmetic shift is the sign extension of the 24 high bits (R140, R141). -/
theorem decode32_eq_signExtend (w : BitVec 32) : decode32 w = (w.extractLsb' 8 24).signExtend 32 := by
  unfold decode32
  apply BitVec.eq_of_getLsbD_eq
  intro k hk
  simp only [BitVec.getLsbD_sshiftRight, BitVec.getLsbD_signExtend, BitVec.getLsbD_extractLsb', BitVec.msb_eq_getLsbD_last]
  grind

/-- The 24 high bits of a container are the three bytes received (R29). -/
theorem extract_container (b0 b1 b2 : Byte) : (container b0 b1 b2).extractLsb' 8 24 = b0 ++ b1 ++ b2 := by
  unfold container
  show BitVec.extractLsb' 8 24 (b0 ++ b1 ++ b2 ++ 0#8) = _
  apply BitVec.eq_of_getLsbD_eq
  intro k hk
  simp only [BitVec.getLsbD_extractLsb', BitVec.getLsbD_append]
  grind

/-- Channel `i` decodes to the code in slot `i + 1` (30_encoding.md R88). -/
theorem decode32_channelWord {is : List Byte} {i : Byte} (h : i.toNat ≤ 3) :
    decode32 (channelWord (packFrame is) i) = (codeOf is i.toNat).signExtend 32 := by
  rw [decode32_eq_signExtend]
  congr 1
  have hi : i.toNat = 0 ∨ i.toNat = 1 ∨ i.toNat = 2 ∨ i.toNat = 3 := by omega
  rcases hi with hi | hi | hi | hi <;> simp [channelWord, hi, packFrame, slotWord, codeOf] <;> exact extract_container _ _ _

/-- What lane `j` of RDCHS gets (R144). -/
theorem laneValue_of_rx {s : State} {l : Vector Byte 4} {n : Byte} {j : Fin 4} {is : List Byte} (hs : s.rx = packFrame is)
    (h : j.val < n.toNat → l[j].toNat ≤ 3) :
    laneValue s l n j = if j.val < n.toNat then (codeOf is l[j].toNat).signExtend 32 else s.sample[j] := by
  unfold laneValue
  split
  · rename_i hj; rw [hs, decode32_channelWord (h hj)]
  · rfl

end Sys2Proof.Machine
end

