-- ==== Sys2Proof/Laws/PerInstr.lean ====
section
/-! SUPPORT. Statements made per instruction: every operation's request has an `OP` that R98 does not reserve. -/
namespace Sys2Proof.Laws

/-- The request that encodes the instruction, if it is a host operation, has an `OP` of 0x00 to 0x11 (30_encoding.md R95, R98). -/
def HostOp.Statement (i : Instr) : Prop := ∀ (p : Params) (r : Request), encode p i = .request r → r.op.toNat ≤ 0x11

theorem HostOp.null : HostOp.Statement .null := by
  intro p r h; cases h
theorem HostOp.reset : HostOp.Statement .reset := by
  intro p r h; cases h
theorem HostOp.standby : HostOp.Statement .standby := by
  intro p r h; cases h
theorem HostOp.wakeup : HostOp.Statement .wakeup := by
  intro p r h; cases h
theorem HostOp.lock : HostOp.Statement .lock := by
  intro p r h; cases h
theorem HostOp.unlock : HostOp.Statement .unlock := by
  intro p r h; cases h
theorem HostOp.read (x : Addr) : HostOp.Statement (.read x) := by
  intro p r h; cases h
theorem HostOp.write (x : Addr) (y : Half) : HostOp.Statement (.write x y) := by
  intro p r h; cases h
theorem HostOp.wack (x : Addr) : HostOp.Statement (.wack x) := by
  intro p r h; cases h
theorem HostOp.xframe (x : Half) : HostOp.Statement (.xframe x) := by
  intro p r h; cases h; simp [Request.ofOp]
theorem HostOp.cmd (x : Byte) : HostOp.Statement (.cmd x) := by
  intro p r h; cases h; simp [Request.ofOp]
theorem HostOp.rdreg (x : Byte) : HostOp.Statement (.rdreg x) := by
  intro p r h; cases h; simp [Request.ofOp]
theorem HostOp.wrreg (x : Byte) (y : Half) : HostOp.Statement (.wrreg x y) := by
  intro p r h; cases h; simp [Request.ofOp]
theorem HostOp.wrmask (x : Byte) (y : Half) (z : Half) : HostOp.Statement (.wrmask x y z) := by
  intro p r h; cases h; simp [Request.ofOp]
theorem HostOp.rdchs (x : Vector Byte 4) (y : Byte) : HostOp.Statement (.rdchs x y) := by
  intro p r h; cases h; simp [Request.ofOp]
theorem HostOp.rdch (x : Byte) : HostOp.Statement (.rdch x) := by
  intro p r h; cases h; simp [Request.ofOp]
theorem HostOp.rdvolt (x : Byte) : HostOp.Statement (.rdvolt x) := by
  intro p r h; cases h; simp [Request.ofOp]
theorem HostOp.drdy : HostOp.Statement .drdy := by
  intro p r h; cases h; decide
theorem HostOp.rdid : HostOp.Statement .rdid := by
  intro p r h; cases h; decide
theorem HostOp.begin : HostOp.Statement .begin := by
  intro p r h; cases h; decide
theorem HostOp.setgain (x : Vector Byte 4) : HostOp.Statement (.setgain x) := by
  intro p r h; cases h; simp [Request.ofOp]
theorem HostOp.gchop (x : Byte) (y : Half) : HostOp.Statement (.gchop x y) := by
  intro p r h; cases h; simp [Request.ofOp]
theorem HostOp.setosr (x : Byte) : HostOp.Statement (.setosr x) := by
  intro p r h; cases h; simp [Request.ofOp]
theorem HostOp.setpwr (x : Byte) : HostOp.Statement (.setpwr x) := by
  intro p r h; cases h; simp [Request.ofOp]
theorem HostOp.decode (x : BitVec 32) : HostOp.Statement (.decode x) := by
  intro p r h; cases h; simp [Request.ofOp]
theorem HostOp.scale (x : BitVec 32) : HostOp.Statement (.scale x) := by
  intro p r h; cases h; simp [Request.ofOp]
theorem HostOp.gasconv : HostOp.Statement .gasconv := by
  intro p r h; cases h; decide

end Sys2Proof.Laws
end

