-- ==== Sys2Proof/Laws/Sequencer.lean ====
section
/-! SUPPORT. The sequencer's steps: how they compose, one exchange, and what ignores where `SEQ` stands. -/
namespace Sys2Proof.Machine

/-- Steps of the running core compose. -/
theorem ticks_add {m n : Nat} {s t : State} (h : ticks m s = .next t) : ticks (m + n) s = ticks n t := by
  induction m generalizing s with
  | zero => simp [ticks] at h; subst h; simp
  | succ m ih =>
    rw [show m + 1 + n = (m + n) + 1 by omega, ticks]
    rw [ticks] at h
    cases hs : tick s with
    | next u => rw [hs] at h; exact ih h
    | fault f => cases f
    | refused r => rw [hs] at h; cases h

/-- A step of an operation other than DRDY with a valid transport (10_state.md R28). -/
theorem tick_eq_tickOf {s : State} {i : Instr} (hl : decodeRequest s.lat = .ok i) (hd : i ≠ .drdy)
    (ht : s.cfg.transportValid = true) : tick s = .next (tickOf i s) := by
  simp only [tick, hl, hd, false_and, if_false]
  exact withTransport_valid ht _

/-- At positions 1 to 18 the step exchanges a byte and stores the answer (R28, R29). -/
theorem tickOf_exchange {s : State} {i : Instr} (hd : i ≠ .drdy) (h0 : s.seq.pos ≠ 0) (h19 : s.seq.pos ≠ 19) :
    tickOf i s = { s with
      bus := xchg (txByte (txWords s.cfg i s.tmpNew s.seq.fr).1 (txWords s.cfg i s.tmpNew s.seq.fr).2
        (s.seq.pos.val - 1)) s.bus,
      rx := storeByte (s.seq.pos.val - 1) (nextByte s.bus) s.rx, seq := ⟨true, s.seq.fr, s.seq.pos + 1⟩ } := by
  simp [tickOf, hd, h0, h19]

/-- Three bytes stored in order make the container of R111 (R29). -/
theorem putByte_three (b0 b1 b2 : Byte) (w : Cont) :
    putByte 2 b2 (putByte 1 b1 (putByte 0 b0 w)) = container b0 b1 b2 := by
  simp only [putByte, container]
  apply BitVec.eq_of_getLsbD_eq
  intro k hk
  show BitVec.getLsbD (_ : BitVec 32) k = BitVec.getLsbD (b0 ++ b1 ++ b2 ++ 0#8) k
  simp only [BitVec.getLsbD_extractLsb', BitVec.getLsbD_append, BitVec.getLsbD_zero]
  grind

/-! What a conclusion leaves alone. -/

theorem concludeWrite_bus (a : Addr) (s : State) : (concludeWrite a s).bus = s.bus := by
  unfold concludeWrite; split <;> rfl
theorem concludeWrite_rx (a : Addr) (s : State) : (concludeWrite a s).rx = s.rx := by
  unfold concludeWrite; split <;> rfl
theorem concludeWrite_sample (a : Addr) (s : State) : (concludeWrite a s).sample = s.sample := by
  unfold concludeWrite; split <;> rfl
theorem concludeId_bus (s : State) : (concludeId s).bus = s.bus := by
  unfold concludeId; split <;> rfl
theorem concludeId_rx (s : State) : (concludeId s).rx = s.rx := by
  unfold concludeId; split <;> rfl
theorem concludeId_sample (s : State) : (concludeId s).sample = s.sample := by
  unfold concludeId; split <;> rfl

/-! A frame and a conclusion do not look at `SEQ`. -/

theorem frame_withSeq (c d : Half) (u : State) (x : SeqState) :
    frame c d { u with seq := x } = { frame c d u with seq := x } := rfl
theorem captureOld_withSeq (v m : Half) (u : State) (x : SeqState) :
    captureOld v m { u with seq := x } = { captureOld v m u with seq := x } := rfl

theorem conclude_withSeq (i : Instr) (u : State) (x : SeqState) : conclude i { u with seq := x } = conclude i u := by
  have hcw : ∀ a, concludeWrite a { u with seq := x } = concludeWrite a u := by
    intro a; simp only [concludeWrite]; rfl
  have hci : ∀ v : State, concludeId { v with seq := x } = concludeId v := by
    intro v; simp only [concludeId]; rfl
  cases i
  case rdid => exact hci (takeResponse u)
  case begin => exact hci (takeResponse u)
  case wrreg => exact hcw _
  case wack => exact hcw _
  case wrmask => exact hcw _
  case setgain => exact hcw _
  case gchop => exact hcw _
  case setosr => exact hcw _
  case setpwr => exact hcw _
  all_goals rfl

end Sys2Proof.Machine
end

