-- ==== Sys2Proof/Tests/Slice0.lean ====
section
/-! SUPPORT. Tests with expected values from spec/95_test_vectors.md or worked out by hand from the rule named, and a
witness for every statement that has hypotheses. -/
namespace Sys2Proof.Tests
open Sys2Proof.Machine

/-! Helpers: an idle core with every register zero, in front of FDEV. -/

/-- FDEV with the registers and channels of the vectors. -/
def dev : Fdev where
  reg := ((((Vector.replicate 64 (0 : Half)).set 0 0x2403).set 3 0x0F0E).set 6 0x0055).set 62 0xBEEF
  resp := 0x050F
  ch := #v[0x400000, 0x123456, 0xC00000, 0xFEDCBA]
  crc := 0x5A5A5A
  ackbad := false
  got := []

def idle : State where
  req := Request.ofOp 0
  lat := Request.ofOp 0
  tmpOld := 0
  tmpNew := 0
  rx := Vector.replicate 6 0
  rdata := 0
  sample := Vector.replicate 4 0
  volt := 0
  gas := 0
  drdyv := false
  busy := false
  done := false
  ok := false
  err := 0
  seq := SeqState.idle
  bus := { cs := false, env := { Env.free with dev := some dev, levels := [true] }, trace := [], draws := 0 }
  cfg := Params.default
  host := []

/-- FDEV that never acknowledges. -/
def mute : State := { idle with bus := { idle.bus with env := { idle.bus.env with dev := some { dev with ackbad := true } } } }

/-- An answer is a next state with a property. -/
def nextIs (r : Result) (P : State → Bool) : Bool :=
  match r with
  | .next t => P t
  | .fault _ => false
  | .refused _ => false

/-- The device behind the bus afterwards holds `v` in register `k`. -/
def devReg (t : State) (k : Fin 64) (v : Half) : Bool :=
  match t.bus.env.dev with
  | some f => f.reg[k] = v
  | none => false

/-- The bytes sent, in order. -/
def sent (t : State) : List Byte :=
  t.bus.trace.filterMap fun e => match e with
    | .x o _ => some o
    | _ => none

/-! WellFormed refuses each ill-formed operand (30_encoding.md R96). -/

theorem test_wf_cmd : Instr.wellFormed Params.default (.cmd 6) = false := by decide
theorem test_wf_rdreg : Instr.wellFormed Params.default (.rdreg 0x40) = false := by decide
theorem test_wf_wrreg : Instr.wellFormed Params.default (.wrreg 0x40 0) = false := by decide
theorem test_wf_wrmask : Instr.wellFormed Params.default (.wrmask 0x40 0 0) = false := by decide
theorem test_wf_rdchs_count : Instr.wellFormed Params.default (.rdchs #v[0, 0, 0, 0] 5) = false := by decide
theorem test_wf_rdchs_lane : Instr.wellFormed Params.default (.rdchs #v[0, 4, 0, 0] 2) = false := by decide
theorem test_wf_rdchs_unused : Instr.wellFormed Params.default (.rdchs #v[0, 4, 0, 0] 1) = true := by decide
theorem test_wf_rdch : Instr.wellFormed Params.default (.rdch 4) = false := by decide
theorem test_wf_rdvolt : Instr.wellFormed Params.default (.rdvolt 4) = false := by decide
theorem test_wf_setgain : Instr.wellFormed Params.default (.setgain #v[1, 2, 4, 16]) = false := by decide
theorem test_wf_gchop_enable : Instr.wellFormed Params.default (.gchop 2 4) = false := by decide
theorem test_wf_gchop_zero : Instr.wellFormed Params.default (.gchop 1 0) = false := by decide
theorem test_wf_gchop_above : Instr.wellFormed Params.default (.gchop 1 129) = false := by decide
theorem test_wf_setosr : Instr.wellFormed Params.default (.setosr 8) = false := by decide
theorem test_wf_setpwr : Instr.wellFormed Params.default (.setpwr 4) = false := by decide
theorem test_wf_scale_above : Instr.wellFormed Params.default (.scale 8388608) = false := by decide
theorem test_wf_scale_below : Instr.wellFormed Params.default (.scale 0xFF7FFFFF) = false := by decide

/-! Decoding, words written out from R92 and R95. -/

theorem test_decode_null : decodeTableWord 16 0b0000000000000000 = some .null := by decide
theorem test_decode_reset : decodeTableWord 16 0b0000000000010001 = some .reset := by decide
theorem test_decode_standby : decodeTableWord 16 0b0000000000100010 = some .standby := by decide
theorem test_decode_wakeup : decodeTableWord 16 0b0000000000110011 = some .wakeup := by decide
theorem test_decode_lock : decodeTableWord 16 0b0000010101010101 = some .lock := by decide
theorem test_decode_unlock : decodeTableWord 16 0b0000011001010101 = some .unlock := by decide
theorem test_decode_read : decodeTableWord 16 0b1011111100000000 = some (.read 0x3E) := by decide
theorem test_decode_write : decodeTableWord 16 0b0110000100000000 = some (.write 0x02 0) := by decide
theorem test_decode_write_data :
    decodeWire Params.default 0b0110000100000000 0x0511 = .ok (.write 0x02 0x0511) := by decide
theorem test_decode_wack : decodeTableWord 16 0b0100111000000000 = some (.wack 0x1C) := by decide
theorem test_decode_reserved_low : decodeTableWord 16 0b1010000000000001 = none := by decide
theorem test_decode_xframe : decodeRequest { Request.ofOp 0b00000 with d := 0x1234 } = .ok (.xframe 0x1234) := by decide
theorem test_decode_cmd : decodeRequest { Request.ofOp 0b00001 with a := 5 } = .ok (.cmd 5) := by decide
theorem test_decode_rdreg : decodeRequest { Request.ofOp 0b00010 with a := 0x3E } = .ok (.rdreg 0x3E) := by decide
theorem test_decode_wrreg :
    decodeRequest { Request.ofOp 0b00011 with a := 2, d := 0x0511 } = .ok (.wrreg 2 0x0511) := by decide
theorem test_decode_wrmask :
    decodeRequest { Request.ofOp 0b00100 with a := 6, d := 0x0700, m := 0xFF00 } = .ok (.wrmask 6 0x0700 0xFF00) := by decide
theorem test_decode_rdchs :
    decodeRequest { Request.ofOp 0b00101 with l := #v[2, 0, 0, 0], n := 2 } = .ok (.rdchs #v[2, 0, 0, 0] 2) := by decide
theorem test_decode_rdch : decodeRequest { Request.ofOp 0b00110 with a := 3 } = .ok (.rdch 3) := by decide
theorem test_decode_rdvolt : decodeRequest { Request.ofOp 0b00111 with a := 1 } = .ok (.rdvolt 1) := by decide
theorem test_decode_drdy : decodeTableWord 8 0b01000 = some .drdy := by decide
theorem test_decode_rdid : decodeTableWord 8 0b01001 = some .rdid := by decide
theorem test_decode_begin : decodeTableWord 8 0b01010 = some .begin := by decide
theorem test_decode_setgain :
    decodeRequest { Request.ofOp 0b01011 with l := #v[1, 2, 4, 8] } = .ok (.setgain #v[1, 2, 4, 8]) := by decide
theorem test_decode_gchop : decodeRequest { Request.ofOp 0b01100 with a := 1, d := 4 } = .ok (.gchop 1 4) := by decide
theorem test_decode_setosr : decodeRequest { Request.ofOp 0b01101 with a := 5 } = .ok (.setosr 5) := by decide
theorem test_decode_setpwr : decodeRequest { Request.ofOp 0b01110 with a := 1 } = .ok (.setpwr 1) := by decide
theorem test_decode_decode :
    decodeRequest { Request.ofOp 0b01111 with w := 0xFEDCBA00 } = .ok (.decode 0xFEDCBA00) := by decide
theorem test_decode_scale : decodeRequest { Request.ofOp 0b10000 with w := 4194304 } = .ok (.scale 4194304) := by decide
theorem test_decode_gasconv : decodeTableWord 8 0b10001 = some .gasconv := by decide

/-! Every table word runs as the first instruction after reset. -/

theorem test_reset_runs_request : nextIs (step (State.reset.withFetchWord 8 0b00110)) (fun t => t.ok) = true := by decide
theorem test_reset_runs_word : nextIs (step (State.reset.withFetchWord 16 0xA000)) (fun t => t.ok) = true := by decide

/-! One step per instruction, under FDEV. -/

/-- V-F5, R191: NULL brings the pending response and the channels. -/
theorem test_null : nextIs (exec .null idle) (fun t => t.ok &&
    t.rx == #v[0x050F0000, 0x40000000, 0x12345600, 0xC0000000, 0xFEDCBA00, 0x5A5A5A00]) = true := by decide
/-- R190's example, for the bare word. -/
theorem test_reset : nextIs (exec .reset idle) (fun t => t.ok && (sent t).take 3 == [0x00, 0x11, 0x00]) = true := by decide
theorem test_standby : nextIs (exec .standby idle) (fun t => t.ok && (sent t).take 3 == [0x00, 0x22, 0x00]) = true := by decide
theorem test_wakeup : nextIs (exec .wakeup idle) (fun t => t.ok && (sent t).take 3 == [0x00, 0x33, 0x00]) = true := by decide
theorem test_lock : nextIs (exec .lock idle) (fun t => t.ok && (sent t).take 3 == [0x05, 0x55, 0x00]) = true := by decide
theorem test_unlock : nextIs (exec .unlock idle) (fun t => t.ok && (sent t).take 3 == [0x06, 0x55, 0x00]) = true := by decide
/-- V-R1, frame 1. -/
theorem test_read : nextIs (exec (.read 0x3E) idle) (fun t => t.ok && (sent t).take 3 == [0xBF, 0x00, 0x00]) = true := by decide
/-- V-R3, frame 1. -/
theorem test_write : nextIs (exec (.write 0x02 0x0511) idle) (fun t => t.ok && devReg t 2 0x0511 &&
    (sent t).take 6 == [0x61, 0x00, 0x00, 0x05, 0x11, 0x00]) = true := by decide
/-- V-R4: the pending 0x050F is no acknowledgement. -/
theorem test_wack_wrong : nextIs (exec (.wack 0x02) idle) (fun t => !t.ok && t.err == 3) = true := by decide
/-- V-F5. -/
theorem test_xframe : nextIs (exec (.xframe 0x1234) idle) (fun t => t.ok && t.rx[0] == 0x050F0000 &&
    (sent t).take 3 == [0x12, 0x34, 0x00]) = true := by decide
/-- R190's example. -/
theorem test_cmd : nextIs (exec (.cmd 1) idle) (fun t => t.ok && (sent t).take 3 == [0x00, 0x11, 0x00]) = true := by decide
theorem test_cmd_param : nextIs (exec (.cmd 6) idle) (fun t => !t.ok && t.err == 4 && t.bus.trace == []) = true := by decide
/-- V-R1. -/
theorem test_rdreg : nextIs (exec (.rdreg 0x3E) idle) (fun t => t.ok && t.rdata == 0xBEEF && t.rx[0] == 0xBEEF0000 &&
    t.bus.trace.length == 40) = true := by decide
/-- V-R2. -/
theorem test_rdreg_param : nextIs (exec (.rdreg 0x40) idle) (fun t => !t.ok && t.err == 4 && t.bus.trace == []) = true := by decide
/-- V-R3. -/
theorem test_wrreg : nextIs (exec (.wrreg 0x02 0x0511) idle) (fun t => t.ok && t.rx[0] == 0x41000000 &&
    devReg t 2 0x0511) = true := by decide
/-- S9. -/
theorem test_wrreg_ack : nextIs (exec (.wrreg 0x02 0x0511) mute) (fun t => !t.ok && t.err == 3 &&
    devReg t 2 0x0511) = true := by decide
/-- V-WM1. -/
theorem test_wrmask : nextIs (exec (.wrmask 0x06 0x0700 0xFF00) idle) (fun t => t.ok && t.rdata == 0x0055 &&
    devReg t 6 0x0755 && t.bus.trace.length == 80) = true := by decide
/-- V-WM2: data bits outside the mask are dropped. -/
theorem test_wrmask_stray : nextIs (exec (.wrmask 0x03 0xFFFF 0x001C) idle) (fun t => t.ok &&
    devReg t 3 0x0F1E) = true := by decide
/-- V-C1. -/
theorem test_rdchs : nextIs (exec (.rdchs #v[2, 0, 1, 3] 4) idle) (fun t => t.ok &&
    t.sample[0].toInt == -4194304 && t.sample[1].toInt == 4194304 && t.sample[2].toInt == 1193046 &&
    t.sample[3].toInt == -74566) = true := by decide
/-- V-C5: a lane beyond the count is ignored. -/
theorem test_rdchs_unused : nextIs (exec (.rdchs #v[0, 4, 0, 0] 1) { idle with sample := #v[1, 2, 3, 4] }) (fun t => t.ok &&
    t.sample == #v[4194304, 2, 3, 4]) = true := by decide
/-- V-C6. -/
theorem test_rdch : nextIs (exec (.rdch 3) idle) (fun t => t.ok && t.sample[0].toInt == -74566) = true := by decide
theorem test_rdch_param : nextIs (exec (.rdch 4) idle) (fun t => !t.ok && t.err == 4 && t.bus.trace == []) = true := by decide
/-- V-S2. -/
theorem test_rdvolt : nextIs (exec (.rdvolt 1) idle) (fun t => t.ok && t.sample[0].toInt == 1193046 &&
    t.volt.toInt == 170666) = true := by decide
theorem test_rdvolt_negative : nextIs (exec (.rdvolt 3) idle) (fun t => t.ok && t.volt.toInt == -10666) = true := by decide
/-- R182. -/
theorem test_drdy : nextIs (exec .drdy idle) (fun t => t.ok && t.drdyv && t.bus.trace == [.dr true]) = true := by decide
/-- V-K1. -/
theorem test_rdid : nextIs (exec .rdid idle) (fun t => t.ok && t.rdata == 0x2403) = true := by decide
theorem test_rdid_full_mask : nextIs (exec .rdid { idle with cfg := { Params.default with idMask := 0xFFFF, idExpect := 0x2400 } })
    (fun t => !t.ok && t.err == 2 && t.rdata == 0x2403) = true := by decide
theorem test_begin : nextIs (exec .begin idle) (fun t => t.ok && t.rdata == 0x2403) = true := by decide
/-- V-K2. -/
theorem test_begin_init : nextIs (exec .begin { idle with cfg := { Params.default with transportValid := false } })
    (fun t => !t.ok && t.err == 1 && t.bus.trace == []) = true := by decide
/-- S6. -/
theorem test_setgain : nextIs (exec (.setgain #v[1, 2, 4, 8]) idle) (fun t => t.ok && devReg t 4 0x8421) = true := by decide
theorem test_setgain_param : nextIs (exec (.setgain #v[1, 2, 4, 16]) idle) (fun t => t.err == 4 && t.bus.trace == []) = true := by decide
/-- R176's example. -/
theorem test_gchop : nextIs (exec (.gchop 1 4) idle) (fun t => t.ok && devReg t 6 0x0755) = true := by decide
/-- R177: the delay is written with the enable at 0 too; 0x0055 keeps its low byte. -/
theorem test_gchop_off : nextIs (exec (.gchop 0 16) idle) (fun t => t.ok && devReg t 6 0x1E55) = true := by decide
/-- R178's example. -/
theorem test_setosr : nextIs (exec (.setosr 5) idle) (fun t => t.ok && devReg t 3 0x0F16) = true := by decide
/-- R180's example. -/
theorem test_setpwr : nextIs (exec (.setpwr 1) idle) (fun t => t.ok && devReg t 3 0x0F0D) = true := by decide
/-- V-D. -/
theorem test_decode_value : nextIs (exec (.decode 0xFEDCBA00) idle) (fun t => t.ok && t.sample[0].toInt == -74566) = true := by decide
theorem test_decode_low_byte : nextIs (exec (.decode 0xFFFFFFFF) idle) (fun t => t.ok && t.sample[0].toInt == -1) = true := by decide
/-- V-S. -/
theorem test_scale : nextIs (exec (.scale (-6)) idle) (fun t => t.ok && t.volt.toInt == 0) = true := by decide
theorem test_scale_wide : nextIs (exec (.scale (-8388608)) { idle with cfg := { Params.default with fsUv := 2147483647 } })
    (fun t => t.volt.toInt == -2147483903) = true := by decide
/-- V-G. -/
theorem test_gasconv : nextIs (exec .gasconv { idle with volt := 600000, cfg := { Params.default with zUv := 100000, kQ := 32768 } })
    (fun t => t.ok && t.gas.toInt == 250000) = true := by decide
theorem test_gasconv_toward_zero : nextIs (exec .gasconv { idle with cfg := { Params.default with zUv := 1, kQ := 1 } })
    (fun t => t.gas.toInt == 0) = true := by decide

/-! Other machine behaviour. -/

/-- V-F1: byte positions of a frame. -/
theorem test_frame_bytes : frameBytes 0x1234 0xABCD =
    [0x12, 0x34, 0, 0xAB, 0xCD, 0, 0, 0, 0, 0, 0, 0, 0, 0, 0, 0, 0, 0] := by decide
/-- V-F2: packing. -/
theorem test_pack : packFrame [1, 2, 3, 4, 5, 6, 7, 8, 9, 10, 11, 12, 13, 14, 15, 16, 17, 18] =
    #v[0x01020300, 0x04050600, 0x07080900, 0x0A0B0C00, 0x0D0E0F00, 0x10111200] := by decide
/-- R28: the first step of a running operation asserts chip select. -/
theorem test_first_tick : nextIs (step { idle with busy := true, seq := ⟨true, 0, 0⟩ })
    (fun t => t.bus.cs && t.seq == ⟨true, 0, 1⟩ && t.bus.trace == [.cs true]) = true := by decide

/-! Witnesses: for each statement with hypotheses, a state and operands that meet them, at the ends of their ranges. -/

/-- The idle core with one thing for the host to do. -/
def hosted (a : HostAction) : State := { idle with host := [a] }

/-- A register read in its second frame, four bytes in. -/
def midFrame : State := { idle with
  lat := { Request.ofOp 0x02 with a := 0x3E }, busy := true, seq := ⟨true, 1, 5⟩,
  bus := { idle.bus with cs := true, trace := frameEvents 0xBF00 0 (List.replicate 18 0) ++
    [.cs true, .x 0 0xBE, .x 0 0xEF, .x 0 0, .x 0 0x40] } }

/-- An operation just started. -/
def started (r : Request) : State := { idle with lat := r, busy := true, seq := ⟨true, 0, 0⟩ }

def noTransport : State := { idle with cfg := { Params.default with transportValid := false } }
def noLine : State := { idle with cfg := { Params.default with hasDrdy := false } }

/-- The defaults of R10 meet R92's constraints. -/
theorem test_default_wireOk : Params.default.wireOk := by
  refine ⟨by decide, by decide, by decide, by decide, by decide, ?_⟩
  simp only [Params.standalone, List.forall_mem_cons, List.not_mem_nil, false_implies, implies_true, and_true]
  refine ⟨?_, ?_, ?_, ?_, ?_, ?_⟩ <;> decide

theorem test_witness_DecodeOfEncodeIsTheInstruction : Params.default.wireOk ∧ Params.default.wackDistinct := by
  refine ⟨test_default_wireOk, by decide, by decide, ?_⟩
  simp only [Params.standalone, List.forall_mem_cons, List.not_mem_nil, false_implies, implies_true, and_true]
  refine ⟨?_, ?_, ?_, ?_, ?_, ?_⟩ <;> decide

/-- The other reading of R129. -/
theorem test_witness_DecodeOfEncodeIsTheInstruction_wackIsWrite :
    Params.wireOk { Params.default with opWack := 0x6000 } ∧ Params.default.opWrite = 0x6000 :=
  ⟨⟨test_default_wireOk.1, by decide, by decide, by decide, test_default_wireOk.2.2.2.2⟩, rfl⟩

theorem test_witness_DecodedFrameIsTheEncoding :
    Params.default.wireOk ∧ decodeWire Params.default 0xBF80 0 = .ok (.read 0x3F) ∧
    decodeWire Params.default 0x6000 0xFFFF = .ok (.write 0 0xFFFF) := by
  exact ⟨test_default_wireOk, by decide, by decide⟩

theorem test_witness_RequestDecodesByItsOp :
    decodeRequest (Request.ofOp 0x11) = .ok .gasconv ∧
    decodeRequest { Request.ofOp 0x02 with a := 0x3E, d := 1 } = .ok (.rdreg 0x3E) ∧
    operandsOf { Request.ofOp 0x02 with a := 0x3E, d := 1 } = { Request.ofOp 0x02 with a := 0x3E } ∧
    decodeRequest (Request.ofOp 0x12) = .error (.reservedOp 0x12) ∧
    decodeRequest (Request.ofOp 0x1F) = .error (.reservedOp 0x1F) ∧ (0x12 : Nat) ≤ (0x12 : BitVec 5).toNat := by decide

theorem test_witness_TransmitByteByPosition : (2 : Nat) ≠ 0 ∧ (2 : Nat) ≠ 1 ∧ (2 : Nat) ≠ 3 ∧ (2 : Nat) ≠ 4 := by decide

theorem test_witness_FrameBytesDecode :
    decodeBytes Params.default (frameBytes 0x6200 0x8421) = .ok (.write 0x04 0x8421) := by decide

theorem test_witness_AddressFieldOfCommandWord : (0xA000 : Half) &&& 0x1FFF = 0 ∧ (0xE000 : Half) &&& 0x1FFF = 0 := by decide

theorem test_witness_StepRunsDecodedRequest :
    (hosted (.call { Request.ofOp 0x02 with a := 0x3E })).seq.run = false ∧
    decodeRequest { Request.ofOp 0x02 with a := 0x3E } = .ok (.rdreg 0x3E) := by decide

theorem test_witness_StepRunsDecodedWireWord :
    (hosted (.wire 0xBF00 0)).seq.run = false ∧ decodeWire idle.cfg 0xBF00 0 = .ok (.read 0x3E) ∧
    decodeWire idle.cfg 0xA001 0 = .error (.reservedBits 0xA001) ∧
    decodeWire idle.cfg 0x4100 1 = .error (.strayData 0x4100 1) ∧ idle.cfg.transportValid = true := by decide

theorem test_witness_FetchedTableWordRuns :
    decodeTableWord 8 0x11 = some .gasconv ∧ idle.cfg = Params.default ∧
    decodeTableWord 16 0xFFFF6200 = some (.write 0x04 0xFFFF) := by decide

theorem test_witness_StartLatchesRequest :
    (hosted .start).seq.run = false ∧
    decodeRequest { Request.ofOp 0x02 with a := 0x3F } = .ok (.rdreg 0x3F) ∧
    Instr.wellFormed idle.cfg (.rdreg 0x3F) = true ∧ 0 < callsOf (.rdreg 0x3F) ∧
    decodeRequest (Request.ofOp 0x0A) = .ok .begin ∧ idle.cfg.transportValid = true ∧
    decodeRequest { Request.ofOp 0x10 with w := 0xFF800000 } = .ok (.scale 0xFF800000) ∧
    Instr.wellFormed idle.cfg (.scale 0xFF800000) = true ∧ callsOf (.scale 0xFF800000) = 0 := by decide

theorem test_witness_ReservedOpEndsWithParam :
    (hosted .start).seq.run = false ∧ 0x12 ≤ (Request.ofOp 0x12).op.toNat ∧ 0x12 ≤ (Request.ofOp 0x1F).op.toNat ∧
    (hosted (.call (Request.ofOp 0x12))).host = [.call (Request.ofOp 0x12)] ∧
    ({ hosted .start with req := Request.ofOp 0x1F } : State).host = [.start] := by decide

theorem test_witness_StartChecksBeforeAnyBusTransaction :
    (hosted .start).seq.run = false ∧
    decodeRequest { Request.ofOp 0x02 with a := 0x40 } = .ok (.rdreg 0x40) ∧
    Instr.wellFormed idle.cfg (.rdreg 0x40) = false ∧
    decodeRequest (Request.ofOp 0x0A) = .ok .begin ∧ noTransport.cfg.transportValid = false := by decide

theorem test_witness_BusyCoreRefusesHost :
    midFrame.seq.run = true ∧ ({ midFrame with host := [.start] } : State).host = [.start] ∧
    ({ midFrame with host := [.wire 0 0] } : State).host = [.wire 0 0] ∧
    ({ midFrame with host := [.reset] } : State).host = [.reset] := by decide

theorem test_witness_HostWriteChangesOnlyRequest :
    (hosted (.write (.l 3 0xFF))).host = [.write (.l 3 0xFF)] ∧ (hosted (.write (.a 0x40))).host = [.write (.a 0x40)] := by
  decide

theorem test_witness_ResetLeavesCoreIdle : (hosted .reset).seq.run = false ∧ (hosted .reset).host = [.reset] := by decide

theorem test_witness_IdleCoreStays :
    idle.seq.run = false ∧ idle.host = [] ∧ (hosted .await).host = [.await] ∧ (hosted .yield).host = [.yield] := by decide

theorem test_witness_IdleHostReadReturnsContent :
    idle.busy = false ∧ hostRead (.sample 3) { idle with sample := #v[0, 0, 0, 0xFFFFFFFF] } = 0xFFFFFFFF ∧
    midFrame.busy = true ∧ hostRead .reqA { midFrame with req := { midFrame.req with a := 0x40 } } = 0x40 := by decide

theorem test_witness_XframeSendsAnyWord : idle.cfg.transportValid = true ∧ (Request.ofOp 0x00).op = 0x00 := by decide

theorem test_witness_WireWordIsOneFrame : idle.cfg.transportValid = true := by decide

/-- The response a WACK frame under FDEV receives is the pending one: here the acknowledgement, and above not. -/
theorem test_witness_WackComparesResponse :
    idle.cfg.transportValid = true ∧ respOf [0x41, 0x00] = withAddr idle.cfg.opWack 0x02 ∧
    respOf [0x05, 0x0F] ≠ withAddr idle.cfg.opWack 0x02 := by decide

theorem test_witness_CmdSendsSelectedWord :
    (Request.ofOp 0x01).op = 0x01 ∧ idle.cfg.transportValid = true ∧ 5 < (6 : Byte).toNat := by decide

theorem test_witness_ScriptedBytesReachRx :
    idle.cfg.transportValid = true ∧
    ({ dev := none, bytes := List.replicate 19 0xFF, levels := [] } : Env).bytes = List.replicate 18 0xFF ++ [0xFF] ∧
    (List.replicate 18 (0xFF : Byte)).length = 18 := by decide

theorem test_witness_RdregReturnsSecondResponse :
    (Request.ofOp 0x02).op = 0x02 ∧ idle.cfg.transportValid = true ∧ (0x3F : Byte).toNat ≤ 0x3F ∧
    0x3F < (0x40 : Byte).toNat := by decide

theorem test_witness_WrregSucceedsIffAcknowledged :
    (Request.ofOp 0x03).op = 0x03 ∧ idle.cfg.transportValid = true ∧ (0x3F : Byte).toNat ≤ 0x3F ∧
    0x3F < (0x40 : Byte).toNat ∧ respOf [0x5F, 0x80] = withAddr idle.cfg.opWack (addrBits 0x3F) ∧
    respOf [0x5F, 0x00] ≠ withAddr idle.cfg.opWack (addrBits 0x3F) := by decide

theorem test_witness_WrmaskMergesUnderMask :
    (Request.ofOp 0x04).op = 0x04 ∧ idle.cfg.transportValid = true ∧ (0x3F : Byte).toNat ≤ 0x3F ∧
    0x3F < (0x40 : Byte).toNat := by decide

theorem test_witness_DecodeSignExtendsContainer : (Request.ofOp 0x0F).op = 0x0F := by decide

theorem test_witness_RdchsDecodesLanesInOrder :
    (Request.ofOp 0x05).op = 0x05 ∧ idle.cfg.transportValid = true ∧ (4 : Byte).toNat ≤ 4 ∧
    (∀ j : Fin 4, j.val < (4 : Byte).toNat → (#v[3, 3, 0, 3] : Vector Byte 4)[j].toNat ≤ 3) ∧
    4 < (5 : Byte).toNat ∧ (∃ j : Fin 4, j.val < (4 : Byte).toNat ∧ 3 < (#v[0, 0, 0, 4] : Vector Byte 4)[j].toNat) := by
  decide

theorem test_witness_RdchDecodesOneChannel :
    (Request.ofOp 0x06).op = 0x06 ∧ idle.cfg.transportValid = true ∧ (3 : Byte).toNat ≤ 3 ∧ 3 < (4 : Byte).toNat := by decide

theorem test_witness_SignExtenderIsBijective : (-8388608 : Int) ≤ -8388608 ∧ (-8388608 : Int) ≤ 8388607 ∧
    decode24 0x800000 = decode24 0x800000 := by decide

theorem test_witness_ScaleRoundsTowardZero :
    (Request.ofOp 0x10).op = 0x10 ∧ -8388608 ≤ (0xFF800000 : BitVec 32).toInt ∧ (0xFF800000 : BitVec 32).toInt ≤ 8388607 ∧
    (0xFF7FFFFF : BitVec 32).toInt < -8388608 ∧ 8388607 < (0x00800000 : BitVec 32).toInt := by decide

theorem test_witness_ScaleIsExactToOneMicrovolt : (-8388608 : Int) ≤ 8388607 := by decide

theorem test_witness_RdvoltScalesDecodedChannel :
    (Request.ofOp 0x07).op = 0x07 ∧ idle.cfg.transportValid = true ∧ (3 : Byte).toNat ≤ 3 ∧ 3 < (4 : Byte).toNat := by decide

theorem test_witness_GasconvIsLinearInVolt :
    (Request.ofOp 0x11).op = 0x11 ∧
    Int.tdiv ((idle.volt.toInt - idle.cfg.zUv.toInt) * idle.cfg.kQ.toInt) (2 ^ idle.cfg.kFrac) = 0 ∧
    -(2 ^ 63) ≤ (0 : Int) ∧ (0 : Int) < 2 ^ 63 ∧ |(2147483904 : BitVec 64).toInt| ≤ 2 ^ 31 + 256 ∧ idle.cfg.kFrac = 16 := by
  decide

theorem test_witness_RdidComparesIdentity :
    (Request.ofOp 0x09).op = 0x09 ∧ idle.cfg.transportValid = true ∧
    (0x24FF : Half) &&& idle.cfg.idMask = idle.cfg.idExpect &&& idle.cfg.idMask ∧
    (0x2303 : Half) &&& idle.cfg.idMask ≠ idle.cfg.idExpect &&& idle.cfg.idMask := by decide

theorem test_witness_BeginChecksTransportThenIdentity :
    (Request.ofOp 0x0A).op = 0x0A ∧ idle.cfg.transportValid = true ∧ noTransport.cfg.transportValid = false := by decide

theorem test_witness_SetgainWritesPackedCodes :
    (Request.ofOp 0x0B).op = 0x0B ∧ idle.cfg.transportValid = true ∧
    (∀ n : Fin 4, (#v[15, 0, 15, 15] : Vector Byte 4)[n].toNat ≤ idle.cfg.gainMax) ∧
    (∃ n : Fin 4, idle.cfg.gainMax < (#v[0, 0, 0, 16] : Vector Byte 4)[n].toNat) := by decide

theorem test_witness_GchopWritesChopFields :
    (Request.ofOp 0x0C).op = 0x0C ∧ idle.cfg.transportValid = true ∧ (1 : Byte).toNat ≤ 1 ∧ 1 ≤ (128 : Half).toNat ∧
    (128 : Half).toNat ≤ idle.cfg.chopDelayMax ∧ 1 < (2 : Byte).toNat ∧ (0 : Half).toNat < 1 ∧
    idle.cfg.chopDelayMax < (129 : Half).toNat := by decide

theorem test_witness_SetosrWritesOversamplingField :
    (Request.ofOp 0x0D).op = 0x0D ∧ idle.cfg.transportValid = true ∧ (7 : Byte).toNat ≤ idle.cfg.osrMax ∧
    idle.cfg.osrMax < (8 : Byte).toNat := by decide

theorem test_witness_SetpwrWritesPowerField :
    (Request.ofOp 0x0E).op = 0x0E ∧ idle.cfg.transportValid = true ∧ (3 : Byte).toNat ≤ idle.cfg.pwrMax ∧
    idle.cfg.pwrMax < (4 : Byte).toNat := by decide

theorem test_witness_DrdyCopiesLevel :
    (Request.ofOp 0x08).op = 0x08 ∧ idle.cfg.hasDrdy = true ∧ idle.cfg.transportValid = true ∧
    idle.bus.env.levels = [true] ∧ noLine.cfg.hasDrdy = false := by decide

theorem test_witness_ParamFailsExactlyOutsideRanges :
    Instr.wellFormed idle.cfg (.cmd 6) = false ∧ Instr.wellFormed idle.cfg (.cmd 5) = true ∧
    nextIs (exec (.cmd 5) idle) (fun _ => true) = true := by decide

theorem test_witness_EveryOperationReachesDone :
    idle.cfg.transportValid = true ∧ idle.cfg.hasDrdy = true := by decide

theorem test_witness_EventsPerOperation :
    Instr.wellFormed idle.cfg (.rdreg 0x3F) = true ∧ idle.cfg.transportValid = true ∧
    nextIs (exec (.rdreg 0x3F) idle) (fun _ => true) = true := by decide

theorem test_witness_InvalidTransportIsRefused :
    noTransport.cfg.transportValid = false ∧ Instr.wellFormed noTransport.cfg (.xframe 0) = true ∧ 0 < callsOf (.xframe 0) ∧
    Instr.xframe 0 ≠ .begin ∧ 0 < callsOf .drdy ∧ noTransport.cfg.hasDrdy = true ∧ noLine.cfg.hasDrdy = false := by decide

/-- Both reach the running core through a non-blocking START. -/
theorem test_witness_InvalidTransportIsRefused_running :
    nextIs (step { noTransport with host := [.start] }) (fun t => t.seq.run && t.lat == Request.ofOp 0x00) = true ∧
    nextIs (step { noLine with host := [.start], req := Request.ofOp 0x08 })
      (fun t => t.seq.run && t.lat == Request.ofOp 0x08) = true := by decide

theorem test_witness_SamplesStayIn24Bits :
    nextIs (exec (.decode 0x80000000) idle) (fun t => t.sample[0].toInt == -8388608) = true := by decide

theorem test_witness_OperationsExpandAsListed :
    idle.cfg.transportValid = true ∧ (0x3F : Byte).toNat ≤ 0x3F ∧ (3 : Byte).toNat ≤ 3 ∧
    nextIs (exec (.read (addrBits 0x3F)) idle) (fun s1 => nextIs (exec .null s1) fun _ => true) = true ∧
    nextIs (exec (.write (addrBits 0x3F) 1) idle) (fun _ => true) = true ∧
    nextIs (exec (.rdreg 0x3F) idle) (fun _ => true) = true ∧
    nextIs (exec (.rdreg 0x00) idle) (fun s1 => s1.rdata == 0x2403) = true ∧ nextIs (exec (.rdch 3) idle) (fun _ => true) = true ∧
    (∀ n : Fin 4, (#v[15, 15, 15, 15] : Vector Byte 4)[n].toNat ≤ idle.cfg.gainMax) ∧ (1 : Byte).toNat ≤ 1 ∧
    1 ≤ (128 : Half).toNat ∧ (128 : Half).toNat ≤ idle.cfg.chopDelayMax ∧ (7 : Byte).toNat ≤ idle.cfg.osrMax ∧
    (3 : Byte).toNat ≤ idle.cfg.pwrMax := by decide

theorem test_witness_ReceivedByteGoesToItsPlace : (5 : Fin 6) ≠ 0 ∧ (0 : Fin 3) = 0 := by decide

/-- The kinds of position: 0, 1 to 18, and 19 with a frame to come and without. -/
theorem test_witness_SequencerMakesOneCallAStep :
    decodeRequest midFrame.lat = .ok (.rdreg 0x3E) ∧ Instr.rdreg 0x3E ≠ .drdy ∧ midFrame.cfg.transportValid = true ∧
    midFrame.seq.run = true ∧ midFrame.seq.pos ≠ 0 ∧ midFrame.seq.pos ≠ 19 ∧
    (started midFrame.lat).seq.pos = 0 ∧ RunsOperation midFrame ∧ RunsOperation (started midFrame.lat) ∧
    (∀ fr : Fin 4, fr.val < 2 → RunsOperation { midFrame with seq := ⟨true, fr, 19⟩ }) ∧
    (0 : Fin 4).val + 1 < framesOf (.rdreg 0x3E) ∧ (1 : Fin 4).val + 1 = framesOf (.rdreg 0x3E) := by
  have runs (q : SeqState) (h : q.fr.val < 2) : RunsOperation { midFrame with seq := q } :=
    fun _ => ⟨.rdreg 0x3E, rfl, rfl, .inr h⟩
  exact ⟨by decide, by decide, rfl, rfl, by decide, by decide, rfl, runs ⟨true, 1, 5⟩ (by decide),
    fun _ => ⟨.rdreg 0x3E, rfl, rfl, .inr (by decide)⟩, fun _ h => runs _ h, by decide, by decide⟩

/-- The three things a host may do that let the running core make its call. -/
theorem test_witness_SequencerMakesOneCallAStep_host :
    midFrame.host = [] ∧ midFrame.seq.run = true ∧ ({ midFrame with host := [.await] } : State).host = [.await] ∧
    ({ midFrame with host := [.yield] } : State).host = [.yield] := by decide

/-- DRDY just after its START. -/
theorem test_witness_SequencerMakesOneCallAStep_drdy :
    decodeRequest (started (Request.ofOp 0x08)).lat = .ok .drdy ∧ (started (Request.ofOp 0x08)).cfg.hasDrdy = true ∧
    (started (Request.ofOp 0x08)).seq.run = true ∧ RunsOperation (started (Request.ofOp 0x08)) :=
  ⟨by decide, rfl, rfl, fun _ => ⟨.drdy, by decide, by decide, .inl ⟨rfl, rfl, rfl⟩⟩⟩

theorem test_witness_SequencerAgreesWithOperation :
    decodeRequest (started { Request.ofOp 0x04 with a := 0x3F }).lat = .ok (.wrmask 0x3F 0 0) ∧
    Instr.wellFormed idle.cfg (.wrmask 0x3F 0 0) = true ∧ 0 < callsOf (.wrmask 0x3F 0 0) ∧
    (started { Request.ofOp 0x04 with a := 0x3F }).cfg.transportValid = true ∧
    (started { Request.ofOp 0x04 with a := 0x3F }).seq = ⟨true, 0, 0⟩ ∧ 0 < callsOf .drdy ∧ idle.cfg.hasDrdy = true := by
  decide

/-- Both kinds of answer: a step that goes on, and one that is refused. -/
theorem test_witness_RunningOperationIgnoresRequest :
    nextIs (ticks 15 midFrame) (fun t => t.done) = true ∧
    ticks 1 { midFrame with cfg := { Params.default with transportValid := false } } = .refused .transportInvalid := by
  refine ⟨by decide, rfl⟩

/-- A core four bytes into a frame meets the invariant and takes a step. -/
theorem test_witness_StepKeepsInvariant : midFrame.Inv ∧ nextIs (step midFrame) (fun _ => true) = true := by
  refine ⟨⟨⟨rfl, by decide, by decide, by decide, by decide, by decide, by decide⟩, ?_, ?_⟩, by decide⟩
  · intro _
    exact ⟨.rdreg 0x3E, by decide, by decide, .inr (by decide)⟩
  · show busAfter .free midFrame.bus.trace = some (phaseOf midFrame.seq.pos)
    decide

theorem test_witness_StepKeepsContainers :
    (∀ k : Fin 6, idle.rx[k].extractLsb' 0 8 = 0) ∧
    nextIs (step (hosted (.call (Request.ofOp 0x00)))) (fun _ => true) = true ∧
    (∀ h : List HostAction, (hosted (.call (Request.ofOp 0x00))).host ≠ .reset :: h) := by
  refine ⟨by decide, by decide, by intro h; simp [hosted]⟩

theorem test_witness_FdevReadReturnsRegister :
    idle.cfg.transportValid = true ∧ idle.cfg.wireOk ∧ (0x3F : Byte).toNat ≤ 0x3F ∧ idle.bus.env.dev = some dev := by
  exact ⟨rfl, test_default_wireOk, by decide, rfl⟩

theorem test_witness_FdevWriteStoresRegister :
    idle.cfg.transportValid = true ∧ idle.cfg.wireOk ∧ idle.cfg.opWack ≠ 0 ∧ (0x3F : Byte).toNat ≤ 0x3F ∧
    idle.bus.env.dev = some dev ∧ dev.ackbad = false ∧ mute.bus.env.dev = some { dev with ackbad := true } := by
  exact ⟨rfl, test_default_wireOk, by decide, by decide, rfl, rfl, rfl⟩

theorem test_witness_FdevMaskedWriteRoundTrip :
    idle.cfg.transportValid = true ∧ idle.cfg.wireOk ∧ (0x3F : Byte).toNat ≤ 0x3F ∧ idle.bus.env.dev = some dev ∧
    dev.ackbad = false := by
  exact ⟨rfl, test_default_wireOk, by decide, rfl, rfl⟩

theorem test_witness_ConfigureChangesOnlyInputs :
    (hosted (.configure noLine.cfg)).seq.run = false ∧ (hosted (.configure noLine.cfg)).host = [.configure noLine.cfg] ∧
    noLine.cfg ≠ idle.cfg := by decide

/-- Both bits inside and bits outside the mask. -/
theorem test_witness_DrdystatMasksStatus :
    idle.cfg.transportValid = true ∧ drdyStat { idle with rdata := 0x050F } = 0x000F := by decide

end Sys2Proof.Tests
end

section
/-! SUPPORT for the statements of 10_state.md: what any operation does to the status fields, the bus, `RX` and `SAMPLE`. -/
namespace Sys2Proof.Machine

/-! ### What `exec` can answer -/

/-- Operands outside the ranges of R96 end in PARAM before any call (60_exceptions.md R209, R210). -/
theorem exec_not_wellFormed {i : Instr} {s : State} (h : i.wellFormed s.cfg = false) :
    exec i s = .next (fail .param s) := by
  have h' : ¬ i.wellFormed s.cfg = true := by simp [h]
  cases i
  case rdchs l n =>
    rw [wellFormed_rdchs, not_and] at h'
    simp only [exec, execRdchs]
    by_cases hn : n.toNat > 4
    · rw [if_pos hn]
    · rw [if_neg hn, if_pos (badLane_of (h' (by omega)))]
  case setgain g =>
    rw [wellFormed_setgain] at h'
    exact if_pos (by omega)
  case gchop en d =>
    simp only [Instr.wellFormed, Bool.and_eq_true, decide_eq_true_eq] at h'
    simp only [exec, execGchop]
    by_cases hen : en.toNat > 1
    · rw [if_pos hen]
    · rw [if_neg hen, if_pos (by omega)]
  case scale w =>
    simp only [Instr.wellFormed, Bool.and_eq_true, decide_eq_true_eq] at h'
    exact if_pos (by omega)
  all_goals simp [Instr.wellFormed] at h
  all_goals exact if_pos (by omega)

/-- Without a transport a checked operation that makes calls is refused, but BEGIN (93_implementation_defined.md U2). -/
theorem exec_transportInvalid {i : Instr} {s : State} (ht : s.cfg.transportValid = false)
    (hw : i.wellFormed s.cfg = true) (hc : 0 < callsOf i) (hb : i ≠ .begin) (hd : i = .drdy → s.cfg.hasDrdy = true) :
    exec i s = .refused .transportInvalid := by
  cases i
  case begin => exact absurd rfl hb
  case decode w => exact absurd hc (by simp [callsOf, framesOf])
  case scale w => exact absurd hc (by simp [callsOf, framesOf])
  case gasconv => exact absurd hc (by simp [callsOf, framesOf])
  case drdy => simp only [exec, execDrdy, hd rfl, if_true, withTransport_invalid ht]
  case rdchs l n =>
    obtain ⟨hn, hl⟩ := (wellFormed_rdchs s.cfg l n).mp hw
    simp only [exec, execRdchs]
    rw [if_neg (by omega), if_neg (by simp [not_badLane_of hl]), withTransport_invalid ht]
  case setgain g =>
    have hg := (wellFormed_setgain s.cfg g).mp hw
    exact (if_neg (by omega)).trans (withTransport_invalid ht _)
  case gchop en d =>
    simp only [Instr.wellFormed, Bool.and_eq_true, decide_eq_true_eq] at hw
    simp only [exec, execGchop]
    rw [if_neg (by omega), if_neg (by omega), withTransport_invalid ht]
  case null | reset | standby | wakeup | lock | unlock | read | write | wack | xframe | rdid =>
    exact if_neg (by simp [ht])
  all_goals simp only [Instr.wellFormed, decide_eq_true_eq] at hw
  all_goals exact (if_neg (by omega)).trans (withTransport_invalid ht _)

/-- An operation that answers ended in PARAM or INIT at its checks, or ran. -/
theorem exec_next_cases {i : Instr} {s t : State} (h : exec i s = .next t) :
    t = fail .param s ∨ t = fail .init s ∨ t = effect i s := by
  by_cases hw : i.wellFormed s.cfg = true
  case neg =>
    rw [exec_not_wellFormed (by simpa using hw)] at h
    injection h with h
    exact .inl h.symm
  by_cases hd : i = .drdy ∧ s.cfg.hasDrdy = false
  case pos => rw [hd.1] at h; simp [exec, execDrdy, hd.2] at h
  have hd' : i = .drdy → s.cfg.hasDrdy = true := by simpa using hd
  by_cases ht : s.cfg.transportValid = true ∨ callsOf i = 0
  case pos =>
    rw [exec_eq_effect s i hw hd' ht] at h
    injection h with h
    exact .inr (.inr h.symm)
  obtain ⟨ht, hc⟩ : s.cfg.transportValid = false ∧ callsOf i ≠ 0 := by simpa using ht
  by_cases hb : i = .begin
  case pos =>
    rw [hb] at h
    simp only [exec, execBegin, ht] at h
    injection h with h
    exact .inr (.inl h.symm)
  rw [exec_transportInvalid ht hw (by omega) hb hd'] at h
  cases h

/-! ### An operation is its bus part and its conclusion -/

/-- The four frames of a masked write, with the merge between the second and the third (41_register_access.md R131). -/
def maskedFrames (a : Addr) (v m : Half) (s : State) : State :=
  devWrite a (merge (response (devRead a s)) v m) (captureOld v m (devRead a s))

/-- What an operation does before its conclusion: its frames, DRDY's call, the computation of the operations without calls. -/
def opBody (i : Instr) (s : State) : State :=
  match i with
  | .rdreg a => devRead (addrBits a) s
  | .wrreg a v => devWrite (addrBits a) v s
  | .rdid | .begin => devRead 0#6 s
  | .wrmask a v m => maskedFrames (addrBits a) v m s
  | .setgain g => maskedFrames 0x04#6 (packGain g) 0xFFFF#16 s
  | .gchop en v => maskedFrames 0x06#6 (packChop en v) chopMask s
  | .setosr c => maskedFrames 0x03#6 (packField c s.cfg.osrLsb) s.cfg.osrMask s
  | .setpwr c => maskedFrames 0x03#6 (packField c s.cfg.pwrLsb) s.cfg.pwrMask s
  | .drdy => readDrdy s
  | .decode w => setLane0 (decode32 w) s
  | .scale w => takeVolt w s
  | .gasconv => takeGas s
  | i => frame (txWords s.cfg i s.tmpNew 0).1 (txWords s.cfg i s.tmpNew 0).2 s

theorem effect_eq_conclude (i : Instr) (s : State) : effect i s = conclude i (opBody i s) := by
  cases i <;> rfl

theorem opBody_inputs (i : Instr) (s : State) : sameInputs s (opBody i s) := by
  cases i <;> exact ⟨rfl, rfl, rfl, rfl⟩

/-! ### What a conclusion does -/

theorem conclude_bus (i : Instr) (s : State) : (conclude i s).bus = s.bus := by
  cases i
  case wack | wrreg | wrmask | setgain | gchop | setosr | setpwr => exact concludeWrite_bus _ s
  case rdid | begin => exact concludeId_bus _
  all_goals rfl

theorem conclude_rx (i : Instr) (s : State) : (conclude i s).rx = s.rx := by
  cases i
  case wack | wrreg | wrmask | setgain | gchop | setosr | setpwr => exact concludeWrite_rx _ s
  case rdid | begin => exact concludeId_rx _
  all_goals rfl

/-- `t` is an end of an operation begun in `s`: idle and done, with an outcome that is not INIT, nor PARAM, and the host's side
untouched (10_state.md R26; 60_exceptions.md R206). -/
structure Finishes (s t : State) : Prop where
  ended : ended t
  ok_iff : t.ok = true ↔ t.err = 0
  err_code : t.err = 0 ∨ t.err = 2 ∨ t.err = 3
  inputs : sameInputs s t

theorem sameInputs_refl (s : State) : sameInputs s s := ⟨rfl, rfl, rfl, rfl⟩

theorem finishes_succeed {s u : State} (h : sameInputs s u) : Finishes s (succeed u) :=
  ⟨by simp [ended], by simp, by simp, h⟩

theorem finishes_concludeWrite {s u : State} (a : Addr) (h : sameInputs s u) : Finishes s (concludeWrite a u) := by
  unfold concludeWrite
  split
  · exact finishes_succeed h
  · exact ⟨by simp [ended], by simp [failCode], by simp [failCode], h⟩

theorem finishes_concludeId {s u : State} (h : sameInputs s u) : Finishes s (concludeId u) := by
  unfold concludeId
  split
  · exact finishes_succeed h
  · exact ⟨by simp [ended], by simp [failCode], by simp [failCode], h⟩

theorem finishes_conclude {s u : State} (i : Instr) (h : sameInputs s u) : Finishes s (conclude i u) := by
  cases i
  case wack | wrreg | wrmask | setgain | gchop | setosr | setpwr => exact finishes_concludeWrite _ h
  case rdid | begin => exact finishes_concludeId h
  all_goals exact finishes_succeed h

theorem finishes_effect (i : Instr) (s : State) : Finishes s (effect i s) := by
  rw [effect_eq_conclude]
  exact finishes_conclude i (opBody_inputs i s)

/-! ### Received containers -/

/-- No byte of a slot goes below bit 8 of its container (10_state.md R29). -/
theorem putByte_low {w : Cont} (n : Nat) (b : Byte) (h : w.extractLsb' 0 8 = 0) :
    (putByte n b w).extractLsb' 0 8 = 0 := by
  have kept : (putByte n b w).extractLsb' 0 8 = 0 ∨ (putByte n b w).extractLsb' 0 8 = w.extractLsb' 0 8 := by
    match n with
    | 0 => left; ext k hk; simp [putByte]; grind
    | 1 => right; ext k hk; simp [putByte]; grind
    | _ + 2 => right; ext k hk; simp [putByte]; grind
  exact kept.elim id (·.trans h)

theorem containers_storeByte {s t : State} (n : Nat) (b : Byte) (h : Containers s) (ht : t.rx = storeByte n b s.rx) :
    Containers t := by
  intro k
  rw [ht, storeByte]
  split
  case isFalse => exact h k
  case isTrue hn =>
    by_cases hk : n / 3 = k.val
    · simp [hk]
      exact putByte_low _ b (h k)
    · simp [hk]
      exact h k

theorem containers_packFrame {s : State} {is : List Byte} (h : s.rx = packFrame is) : Containers s := by
  have low : ∀ b0 b1 b2 : Byte, (container b0 b1 b2).extractLsb' 0 8 = 0 := by
    intro b0 b1 b2
    ext k hk
    simp [container]
    grind
  intro k
  rw [h]
  match k with
  | 0 | 1 | 2 | 3 | 4 | 5 => exact low _ _ _

/-! ### Bus transactions -/

/-- `t` follows `s` by `n` events: whole frames and data-ready reads, after which `CS` is 0 if it was, and
every container has a zero low byte if each had (40_frame_transport.md R114). -/
structure Transacts (n : Nat) (s t : State) : Prop where
  events : ∃ es : List Event, t.bus.trace = s.bus.trace ++ es ∧ es.length = n ∧ busAfter .free es = some .free
  cs : s.bus.cs = false → t.bus.cs = false
  containers : Containers s → Containers t

theorem transacts_of_same {s t : State} (ht : t.bus.trace = s.bus.trace) (hc : t.bus.cs = s.bus.cs) (hr : t.rx = s.rx) :
    Transacts 0 s t :=
  ⟨⟨[], by simp [ht, busAfter]⟩, by simp [hc], by simp [Containers, hr]⟩

theorem Transacts.trans {m n : Nat} {s t u : State} (h : Transacts m s t) (k : Transacts n t u) : Transacts (m + n) s u := by
  obtain ⟨es, he, hl, hb⟩ := h.events
  obtain ⟨fs, hf, kl, kb⟩ := k.events
  exact ⟨⟨es ++ fs, by simp [hf, he], by simp [hl, kl], by simp [busAfter_append, hb, kb]⟩,
    k.cs ∘ h.cs, k.containers ∘ h.containers⟩

theorem frame_transacts (c d : Half) (s : State) : Transacts 20 s (frame c d s) := by
  obtain ⟨is, hl, ht, hr, -⟩ := frameBus_spec s.cfg c d s.bus
  refine ⟨⟨frameEvents c d is, ht, ?_, busAfter_frame c d hl⟩, fun _ => rfl, fun _ => containers_packFrame hr⟩
  simp [frameEvents, hl]

theorem readDrdy_transacts (s : State) : Transacts 1 s (readDrdy s) :=
  ⟨⟨[.dr (nextLevel s.bus)], rfl, rfl, rfl⟩, id, id⟩

theorem devRead_transacts (a : Addr) (s : State) : Transacts 40 s (devRead a s) :=
  (frame_transacts _ _ _).trans (frame_transacts _ _ _)

theorem devWrite_transacts (a : Addr) (v : Half) (s : State) : Transacts 40 s (devWrite a v s) :=
  (frame_transacts _ _ _).trans (frame_transacts _ _ _)

theorem maskedFrames_transacts (a : Addr) (v m : Half) (s : State) : Transacts 80 s (maskedFrames a v m s) :=
  have captured : Transacts 0 (devRead a s) (captureOld v m (devRead a s)) := transacts_of_same rfl rfl rfl
  ((devRead_transacts a s).trans captured).trans (devWrite_transacts _ _ _)

/-- The events of an operation are as many as its calls (10_state.md R32). -/
theorem opBody_transacts (i : Instr) (s : State) : Transacts (callsOf i) s (opBody i s) := by
  cases i
  case rdreg => exact devRead_transacts _ s
  case rdid | begin => exact devRead_transacts _ s
  case wrreg => exact devWrite_transacts _ _ s
  case wrmask | setgain | gchop | setosr | setpwr => exact maskedFrames_transacts _ _ _ s
  case drdy => exact readDrdy_transacts s
  case decode | scale | gasconv => exact transacts_of_same rfl rfl rfl
  all_goals exact frame_transacts _ _ s

theorem effect_transacts (i : Instr) (s : State) : Transacts (callsOf i) s (effect i s) := by
  rw [effect_eq_conclude]
  have concluded := transacts_of_same (congrArg Bus.trace (conclude_bus i (opBody i s)))
    (congrArg Bus.cs (conclude_bus i (opBody i s))) (conclude_rx i (opBody i s))
  exact (opBody_transacts i s).trans concluded

/-! ### Samples -/

/-- The sign extender's result is a 24-bit value (42_sample_decode.md R140). -/
theorem decode32_inRange24 (w : Cont) : inRange24 (decode32 w) := by
  rw [decode32_eq_signExtend, inRange24, BitVec.toInt_signExtend_of_le (by omega)]
  have lower := BitVec.le_two_mul_toInt (x := w.extractLsb' 8 24)
  have upper := BitVec.two_mul_toInt_lt (x := w.extractLsb' 8 24)
  omega

theorem laneValue_cases (s : State) (l : Vector Byte 4) (n : Byte) (j : Fin 4) :
    laneValue s l n j = s.sample[j] ∨ inRange24 (laneValue s l n j) := by
  unfold laneValue
  split
  · exact .inr (decode32_inRange24 _)
  · exact .inl rfl

theorem setLane0_cases {v : BitVec 32} (s : State) (j : Fin 4) (hv : inRange24 v) :
    (setLane0 v s).sample[j] = s.sample[j] ∨ inRange24 (setLane0 v s).sample[j] := by
  match j with
  | 0 => right; simpa using hv
  | 1 | 2 | 3 => left; simp

theorem takeLanes_cases (l : Vector Byte 4) (n : Byte) (s : State) (j : Fin 4) :
    (takeLanes l n s).sample[j] = s.sample[j] ∨ inRange24 (takeLanes l n s).sample[j] := by
  match j with
  | 0 | 1 | 2 | 3 => exact laneValue_cases s l n _

/-- An operation writes a lane only through the sign extender (10_state.md R23). -/
theorem effect_sample_cases (i : Instr) (s : State) (j : Fin 4) :
    (effect i s).sample[j] = s.sample[j] ∨ inRange24 (effect i s).sample[j] := by
  cases i
  case rdchs l n => exact takeLanes_cases l n (frame s.cfg.opNull 0#16 s) j
  case rdch | rdvolt => exact setLane0_cases (frame s.cfg.opNull 0#16 s) j (decode32_inRange24 _)
  case decode w => exact setLane0_cases s j (decode32_inRange24 w)
  case wack | wrreg | wrmask | setgain | gchop | setosr | setpwr =>
    exact .inl (congrArg (·[j]) (concludeWrite_sample _ _))
  case rdid | begin => exact .inl (congrArg (·[j]) (concludeId_sample _))
  all_goals exact .inl rfl

end Sys2Proof.Machine
end

section
/-! SUPPORT for the statements of 10_state.md: what a step of the sequencer and a step of the machine can do. -/
namespace Sys2Proof.Machine

/-! ### Steps of the sequencer, by position (10_state.md R28) -/

theorem framesOf_le_four (i : Instr) : framesOf i ≤ 4 := by
  cases i <;> simp [framesOf]

theorem val_succ_pos {pos : Fin 20} (h : pos ≠ 19) : (pos + 1).val = pos.val + 1 :=
  Fin.val_add_one_of_lt (Fin.lt_last_iff_ne_last.mpr h)

theorem val_succ_frame {i : Instr} {fr : Fin 4} (h : fr.val + 1 < framesOf i) : (fr + 1).val = fr.val + 1 := by
  have := framesOf_le_four i
  exact Fin.val_add_one_of_lt' (by omega)

theorem tickOf_first {s : State} {i : Instr} (hd : i ≠ .drdy) (h0 : s.seq.pos = 0) :
    tickOf i s = { s with bus := setCS s.cfg true s.bus, seq := ⟨true, s.seq.fr, 1⟩ } := by
  simp [tickOf, hd, h0]

/-- Position 19 of the last frame. -/
theorem tickOf_conclude {s : State} {i : Instr} (hd : i ≠ .drdy) (h19 : s.seq.pos = 19)
    (hf : framesOf i ≤ s.seq.fr.val + 1) :
    tickOf i s = conclude i { s with bus := setCS s.cfg false s.bus } := by
  simp [tickOf, hd, h19, hf]

/-- Position 19 of an earlier frame. -/
theorem tickOf_nextFrame {s : State} {i : Instr} (hd : i ≠ .drdy) (h19 : s.seq.pos = 19)
    (hf : s.seq.fr.val + 1 < framesOf i) :
    tickOf i s = betweenFrames i s.seq.fr { s with bus := setCS s.cfg false s.bus, seq := ⟨true, s.seq.fr + 1, 0⟩ } := by
  simp [tickOf, hd, h19, Nat.not_le.mpr hf]

theorem tickOf_drdy (s : State) : tickOf .drdy s = succeed (readDrdy s) := rfl

/-- Between frames only the temporaries and `RDATA` change (41_register_access.md R131). -/
theorem betweenFrames_eq (i : Instr) (fr : Fin 4) (s : State) :
    ∃ old new data : Half, betweenFrames i fr s = { s with tmpOld := old, tmpNew := new, rdata := data } := by
  have same : ∃ old new data : Half, s = { s with tmpOld := old, tmpNew := new, rdata := data } :=
    ⟨s.tmpOld, s.tmpNew, s.rdata, rfl⟩
  unfold betweenFrames
  split
  · split
    · exact ⟨_, _, _, rfl⟩
    · exact same
  · exact same

theorem tickOf_nextFrame_fields {s : State} {i : Instr} (hd : i ≠ .drdy) (h19 : s.seq.pos = 19)
    (hf : s.seq.fr.val + 1 < framesOf i) :
    ∃ old new data : Half, tickOf i s = { s with
      tmpOld := old, tmpNew := new, rdata := data, bus := setCS s.cfg false s.bus, seq := ⟨true, s.seq.fr + 1, 0⟩ } := by
  rw [tickOf_nextFrame hd h19 hf]
  exact betweenFrames_eq i s.seq.fr _

/-- A step that answers is the operation's call, or the end of a latch that names no operation. -/
theorem tick_next_cases {s t : State} (h : tick s = .next t) :
    (∃ e, decodeRequest s.lat = .error e ∧ t = fail .param s) ∨
    (∃ i, decodeRequest s.lat = .ok i ∧ t = tickOf i s) := by
  cases hl : decodeRequest s.lat with
  | error e =>
    simp only [tick, hl] at h
    injection h with h
    exact .inl ⟨e, rfl, h.symm⟩
  | ok i =>
    refine .inr ⟨i, rfl, ?_⟩
    simp only [tick, hl, withTransport] at h
    split at h
    · cases h
    · split at h
      · injection h with h; exact h.symm
      · cases h

theorem tick_drdy {s : State} (hl : decodeRequest s.lat = .ok .drdy) (hd : s.cfg.hasDrdy = true)
    (ht : s.cfg.transportValid = true) : tick s = .next (succeed (readDrdy s)) := by
  simp only [tick, hl, hd, not_true, and_false, if_false]
  exact withTransport_valid ht _

/-- A running core in a well-formed operation: DRDY stands where START left it, another inside one of its frames. -/
theorem RunsOperation.position {s : State} {i : Instr} (h : RunsOperation s) (hr : s.seq.run = true)
    (hl : decodeRequest s.lat = .ok i) :
    (i = .drdy → s.seq = ⟨true, 0, 0⟩) ∧ (i ≠ .drdy → s.seq.fr.val < framesOf i) ∧ i.wellFormed s.cfg = true := by
  obtain ⟨j, hj, hw, hpos⟩ := h hr
  obtain rfl : i = j := by rw [hl] at hj; injection hj
  refine ⟨fun hd => ?_, fun hd => hpos.resolve_left fun hp => hd hp.1, hw⟩
  obtain ⟨-, hfr, hp⟩ := hpos.resolve_right (by simp [hd, framesOf])
  cases hs : s.seq
  simp_all

/-! ### Steps of the machine -/

/-- What a step of the running core can be: the host writes `REQ`, or the core makes a call with the host waiting. -/
theorem stepBusy_next_cases {s t : State} (hr : s.seq.run = true) (h : step s = .next t) :
    (∃ r hs, t = { s with req := r, host := hs }) ∨ (∃ hs, tick { s with host := hs } = .next t) := by
  rw [step, if_pos hr] at h
  unfold stepBusy at h
  split at h
  case h_1 => exact .inr ⟨s.host, h⟩
  case h_2 => exact .inr ⟨s.host, h⟩
  case h_3 hs _ => exact .inr ⟨hs, h⟩
  case h_4 w hs _ =>
    injection h with h
    exact .inl ⟨_, hs, h.symm⟩
  all_goals cases h

/-- What an operation run in one step leads to: a failure of its checks, its end, or the end of a frame sent as given. -/
inductive RunsTo (s t : State) : Prop where
  | failed (x : FailClass) (h : t = fail x s)
  | ran (i : Instr) (h : t = effect i s)
  | sent (c d : Half) (h : t = succeed (frame c d s))

theorem runsTo_of_exec {i : Instr} {s t : State} (h : exec i s = .next t) : RunsTo s t := by
  obtain h | h | h := exec_next_cases h
  · exact .failed _ h
  · exact .failed _ h
  · exact .ran i h

theorem runsTo_of_runRequest {s t : State} (h : runRequest s = .next t) : RunsTo s t := by
  unfold runRequest at h
  split at h
  case h_1 => exact runsTo_of_exec h
  case h_2 => injection h with h; exact .failed _ h.symm

theorem runsTo_of_runWire {c d : Half} {s t : State} (h : runWire c d s = .next t) : RunsTo s t := by
  unfold runWire withTransport at h
  split at h
  case h_1 => exact runsTo_of_exec h
  case h_2 =>
    split at h
    case isTrue => injection h with h; exact .sent c d h.symm
    case isFalse => cases h

/-- START of an operation that passes its checks (60_exceptions.md R215). -/
theorem beginOp_checked {s : State} {i : Instr} (hl : decodeRequest s.lat = .ok i) (hw : i.wellFormed s.cfg = true)
    (hb : i = .begin → s.cfg.transportValid = true) : beginOp s = if hasCalls i then .next s else exec i s := by
  have checked : ¬ (i = .begin ∧ ¬ s.cfg.transportValid = true) := fun h => h.2 (hb h.1)
  simp only [beginOp, hl, if_neg checked, if_pos hw]

/-- START fails, runs an operation without calls, or leaves a checked operation running. -/
theorem beginOp_next_cases {s t : State} (h : beginOp s = .next t) :
    RunsTo s t ∨ (t = s ∧ ∃ i, decodeRequest s.lat = .ok i ∧ i.wellFormed s.cfg = true ∧ hasCalls i = true) := by
  unfold beginOp at h
  split at h
  case h_1 => injection h with h; exact .inl (.failed _ h.symm)
  case h_2 i hl =>
    split at h
    case isTrue => injection h with h; exact .inl (.failed _ h.symm)
    case isFalse =>
      split at h
      case isFalse => injection h with h; exact .inl (.failed _ h.symm)
      case isTrue hw =>
        split at h
        case isTrue hc => injection h with h; exact .inr ⟨h.symm, i, hl, hw, hc⟩
        case isFalse => exact .inl (runsTo_of_exec h)

/-- What a step of the idle core can be: a change of the host's side alone, a reset, an operation run as one step, or a
START that leaves an operation running. -/
theorem stepIdle_next_cases {s t : State} (hr : s.seq.run = false) (h : step s = .next t) :
    (∃ r p hs, t = { s with req := r, cfg := p, host := hs }) ∨
    (∃ hs, s.host = .reset :: hs ∧ t = coreReset { s with host := hs }) ∨
    (∃ u, u.rx = s.rx ∧ u.bus = s.bus ∧ (RunsTo u t ∨
      (t = startPulse u ∧ ∃ i, decodeRequest u.req = .ok i ∧ i.wellFormed u.cfg = true ∧ hasCalls i = true))) := by
  rw [step, if_neg (by simp [hr])] at h
  unfold stepIdle at h
  split at h
  case h_5 hs _ =>
    obtain run | ⟨ht, i, hi⟩ := beginOp_next_cases h
    · exact .inr (.inr ⟨startPulse { s with host := hs }, rfl, rfl, .inl run⟩)
    · exact .inr (.inr ⟨{ s with host := hs }, rfl, rfl, .inr ⟨ht, i, hi⟩⟩)
  case h_6 r hs _ =>
    exact .inr (.inr ⟨startPulse { s with host := hs, req := r }, rfl, rfl, .inl (runsTo_of_runRequest h)⟩)
  case h_7 c d hs _ => exact .inr (.inr ⟨{ s with host := hs }, rfl, rfl, .inl (runsTo_of_runWire h)⟩)
  case h_9 hs hh => injection h with h; exact .inr (.inl ⟨hs, hh, h.symm⟩)
  all_goals
    injection h with h
    exact .inl ⟨_, _, _, h.symm⟩

theorem RunsTo.transacts {s t : State} (h : RunsTo s t) : ∃ n, Transacts n s t := by
  cases h with
  | failed x h => subst h; exact ⟨0, transacts_of_same rfl rfl rfl⟩
  | ran i h => subst h; exact ⟨callsOf i, effect_transacts i s⟩
  | sent c d h =>
    subst h
    have ended : Transacts 0 (frame c d s) (succeed (frame c d s)) := transacts_of_same rfl rfl rfl
    exact ⟨20, (frame_transacts c d s).trans ended⟩

/-- The outcome of an ended operation: `OK` excludes a code, and the code is one of R206. -/
structure Outcomes (t : State) : Prop where
  ended : ended t
  ok_iff : t.ok = true ↔ t.err = 0
  err_code : t.err.toNat ≤ 4

theorem outcomes_fail (x : FailClass) (s : State) : Outcomes (fail x s) := by
  cases x <;> exact ⟨⟨rfl, rfl, rfl⟩, by simp [failCode], by simp [failCode]⟩

theorem Finishes.outcomes {s t : State} (h : Finishes s t) : Outcomes t := by
  refine ⟨h.ended, h.ok_iff, ?_⟩
  obtain e | e | e := h.err_code <;> simp [e]

theorem RunsTo.outcomes {s t : State} (h : RunsTo s t) : Outcomes t := by
  cases h with
  | failed x h => subst h; exact outcomes_fail x s
  | ran i h => subst h; exact (finishes_effect i s).outcomes
  | sent c d h => subst h; exact (finishes_succeed (sameInputs_refl _)).outcomes

/-! ### The invariant -/

/-- The bus between two operations: chip select deasserted, a trace of whole frames (40_frame_transport.md R114). -/
abbrev atRest (b : Bus) : Prop := b.cs = false ∧ busAfter .free b.trace = some .free

theorem Transacts.atRest {n : Nat} {s t : State} (h : Transacts n s t) (hb : atRest s.bus) : atRest t.bus := by
  obtain ⟨es, ht, -, he⟩ := h.events
  exact ⟨h.cs hb.1, by rw [ht, busAfter_append, hb.2]; exact he⟩

theorem State.Inv.atRest {s : State} (h : s.Inv) (hp : s.seq.pos = 0) : atRest s.bus :=
  ⟨by simp [h.handshake.cs_pos, hp], by simpa [BusDiscipline, phaseOf, hp] using h.bus⟩

/-- A running operation's flags are still clear, so all the invariant asks is where `SEQ` and the bus stand. -/
theorem inv_of_running {t : State} (busy : t.busy = true) (clear : t.done = false ∧ t.ok = false ∧ t.err = 0)
    (run : t.seq.run = true) (runs : RunsOperation t) (cs : t.bus.cs = decide (t.seq.pos ≠ 0))
    (bus : BusDiscipline t) : t.Inv := by
  obtain ⟨hd, ho, he⟩ := clear
  exact ⟨⟨by rw [busy, run], by simp [run], cs, fun _ => ⟨hd, ho, he⟩, by simp [hd], fun _ => ⟨ho, he⟩, by simp [he]⟩,
    runs, bus⟩

theorem inv_of_ended {t : State} (h : Outcomes t) (hb : atRest t.bus) : t.Inv := by
  obtain ⟨⟨busy, done, seq⟩, ok_iff, code⟩ := h
  obtain ⟨cs, trace⟩ := hb
  refine ⟨⟨?_, fun _ => seq, ?_, ?_, fun _ => ok_iff, ?_, code⟩, ?_, ?_⟩
  · simp [busy, seq, SeqState.idle]
  · simp [cs, seq, SeqState.idle]
  · simp [seq, SeqState.idle]
  · simp [done]
  · simp [RunsOperation, seq, SeqState.idle]
  · simpa [BusDiscipline, seq, SeqState.idle, phaseOf] using trace

theorem inv_afterReset (p : Params) (e : Env) (h : List HostAction) (d : Nat) : (State.afterReset p e h d).Inv :=
  ⟨⟨rfl, fun _ => rfl, rfl, nofun, nofun, fun _ => ⟨rfl, rfl⟩, Nat.zero_le 4⟩, nofun, rfl⟩

theorem State.Inv.withReqHost {s : State} (h : s.Inv) (r : Request) (hs : List HostAction) :
    State.Inv { s with req := r, host := hs } :=
  ⟨⟨h.handshake.busy_run, h.handshake.idle_zero, h.handshake.cs_pos, h.handshake.run_clear, h.handshake.done_outcome,
    h.handshake.undone_clear, h.handshake.err_code⟩, h.runs, h.bus⟩

/-- Of an idle core the configuration inputs may change too. -/
theorem State.Inv.withInputs {s : State} (h : s.Inv) (hr : s.seq.run = false) (r : Request) (p : Params)
    (hs : List HostAction) : State.Inv { s with req := r, cfg := p, host := hs } :=
  ⟨⟨h.handshake.busy_run, h.handshake.idle_zero, h.handshake.cs_pos, h.handshake.run_clear, h.handshake.done_outcome,
    h.handshake.undone_clear, h.handshake.err_code⟩, fun run => absurd run (by simp [hr]), h.bus⟩

/-- START leaves a checked operation at `SEQ = (true, 0, 0)` (10_state.md R26). -/
theorem inv_startPulse {s : State} {i : Instr} (hb : atRest s.bus) (hl : decodeRequest s.req = .ok i)
    (hw : i.wellFormed s.cfg = true) (hc : hasCalls i = true) : (startPulse s).Inv := by
  obtain ⟨cs, trace⟩ := hb
  have frames : (i = .drdy ∧ (0 : Fin 4) = 0 ∧ (0 : Fin 20) = 0) ∨ (0 : Fin 4).val < framesOf i := by
    cases i <;> simp [framesOf, hasCalls, callsOf] at hc ⊢
  exact inv_of_running rfl ⟨rfl, rfl, rfl⟩ rfl (fun _ => ⟨i, hl, hw, frames⟩) cs trace

/-- An event appended to a trace that stands as `SEQ` says moves the bus on. -/
theorem BusDiscipline.append {s : State} {e : Event} {ph : BusPhase} (h : BusDiscipline s)
    (he : busEvent (phaseOf s.seq.pos) e = some ph) : busAfter .free (s.bus.trace ++ [e]) = some ph := by
  rw [busAfter_append, h]
  simp [busAfter, he]

/-- A running core's next call keeps the invariant. -/
theorem tickOf_inv {s : State} {i : Instr} (h : s.Inv) (run : s.seq.run = true) (hl : decodeRequest s.lat = .ok i) :
    (tickOf i s).Inv := by
  obtain ⟨at_drdy, in_frame, hw⟩ := h.runs.position run hl
  have busy : s.busy = true := h.handshake.busy_run.trans run
  have clear := h.handshake.run_clear run
  by_cases hd : i = .drdy
  · subst hd
    have rest := h.atRest (by simp [at_drdy rfl])
    rw [tickOf_drdy]
    exact inv_of_ended (finishes_succeed (sameInputs_refl _)).outcomes ((readDrdy_transacts s).atRest rest)
  have runs := in_frame hd
  by_cases h0 : s.seq.pos = 0
  · rw [tickOf_first hd h0]
    exact inv_of_running busy clear rfl (fun _ => ⟨i, hl, hw, .inr runs⟩) rfl
      (h.bus.append (by simp [phaseOf, h0, busEvent]))
  by_cases h19 : s.seq.pos = 19
  · have rest : atRest (setCS s.cfg false s.bus) := ⟨rfl, h.bus.append (by simp [phaseOf, h19, busEvent])⟩
    by_cases hf : s.seq.fr.val + 1 < framesOf i
    case neg =>
      rw [tickOf_conclude hd h19 (by omega)]
      exact inv_of_ended (finishes_conclude i (sameInputs_refl _)).outcomes (by rw [conclude_bus]; exact rest)
    case pos =>
      obtain ⟨old, new, data, between⟩ := tickOf_nextFrame_fields hd h19 hf
      rw [between]
      have next : (s.seq.fr + 1).val < framesOf i := by rwa [val_succ_frame hf]
      exact inv_of_running busy clear rfl (fun _ => ⟨i, hl, hw, .inr next⟩) rest.1 rest.2
  · have pos_ne : s.seq.pos.val ≠ 0 := Fin.val_ne_zero_iff.mpr h0
    have pos_succ := val_succ_pos h19
    have byte_fits : s.seq.pos.val - 1 < 18 := by omega
    have succ_ne : s.seq.pos + 1 ≠ 0 := by rw [← Fin.val_ne_zero_iff]; omega
    rw [tickOf_exchange hd h0 h19]
    refine inv_of_running busy clear rfl (fun _ => ⟨i, hl, hw, .inr runs⟩) ?_ (h.bus.append ?_)
    · simp [h.handshake.cs_pos, h0, succ_ne]
    · simp [phaseOf, h0, busEvent, byte_fits, succ_ne]
      omega

theorem step_inv {s t : State} (h : s.Inv) (hst : step s = .next t) : t.Inv := by
  cases run : s.seq.run with
  | true =>
    obtain ⟨r, hs, rfl⟩ | ⟨hs, ht⟩ := stepBusy_next_cases run hst
    · exact h.withReqHost r hs
    · have hi := h.withReqHost s.req hs
      obtain ⟨e, he, -⟩ | ⟨i, hl, rfl⟩ := tick_next_cases ht
      · obtain ⟨j, hj, -⟩ := h.runs run
        cases he.symm.trans hj
      · exact tickOf_inv hi run hl
  | false =>
    have rest : atRest s.bus := h.atRest (by simp [h.handshake.idle_zero run, SeqState.idle])
    obtain ⟨r, p, hs, rfl⟩ | ⟨hs, -, rfl⟩ | ⟨u, -, hbus, hu | ⟨rfl, i, hl, hw, hc⟩⟩ := stepIdle_next_cases run hst
    · exact h.withInputs run r p hs
    · exact inv_afterReset _ _ _ _
    · obtain ⟨n, hn⟩ := hu.transacts
      exact inv_of_ended hu.outcomes (hn.atRest (hbus ▸ rest))
    · exact inv_startPulse (hbus ▸ rest) hl hw hc

end Sys2Proof.Machine
end

section
/-! SUPPORT for the statements of 10_state.md: where a received byte goes, and what a running operation does not read. -/
namespace Sys2Proof.Machine

/-! ### Where a received byte goes (10_state.md R29) -/

/-- Byte `n` of slot `k` is byte `3k + n` of the frame. -/
theorem storeByte_slot (k : Fin 6) (n : Fin 3) (i : Byte) (rx : Vector Cont 6) :
    storeByte (3 * k.val + n.val) i rx = rx.set k (putByte n.val i rx[k]) := by
  have hk : (3 * k.val + n.val) / 3 = k.val := by omega
  have hn : (3 * k.val + n.val) % 3 = n.val := by omega
  simp [storeByte, hk, hn]

theorem putByte_place (n : Fin 3) (i : Byte) (w : Cont) : (putByte n.val i w).extractLsb' (24 - 8 * n.val) 8 = i := by
  match n with
  | 0 | 1 | 2 => ext k hk; simp [putByte]; grind

theorem putByte_zero_clears (i : Byte) (w : Cont) : (putByte 0 i w).extractLsb' 0 24 = 0 := by
  ext k hk; simp [putByte]; grind

/-! ### `RX` under a step -/

theorem tickOf_containers {s : State} (i : Instr) (h : Containers s) : Containers (tickOf i s) := by
  have of_rx : ∀ {t : State}, t.rx = s.rx → Containers t := fun ht k => by rw [ht]; exact h k
  by_cases hd : i = .drdy
  · subst hd; exact of_rx rfl
  by_cases h0 : s.seq.pos = 0
  · rw [tickOf_first hd h0]; exact of_rx rfl
  by_cases h19 : s.seq.pos = 19
  · by_cases hf : s.seq.fr.val + 1 < framesOf i
    case pos =>
      obtain ⟨old, new, data, between⟩ := tickOf_nextFrame_fields hd h19 hf
      rw [between]
      exact of_rx rfl
    case neg =>
      rw [tickOf_conclude hd h19 (by omega)]
      exact of_rx (conclude_rx _ _)
  · rw [tickOf_exchange hd h0 h19]
    exact containers_storeByte _ _ h rfl

theorem tick_containers {s t : State} (h : Containers s) (ht : tick s = .next t) : Containers t := by
  obtain ⟨e, -, rfl⟩ | ⟨i, -, rfl⟩ := tick_next_cases ht
  · exact h
  · exact tickOf_containers i h

/-! ### What a running operation does not read (10_state.md R22) -/

/-- An answer with another request in its registers. -/
def withReq (r : Request) : Result → Result
  | .next t => .next { t with req := r }
  | .fault f => .fault f
  | .refused x => .refused x

variable (r : Request)

theorem concludeWrite_withReq (a : Addr) (u : State) :
    concludeWrite a { u with req := r } = { concludeWrite a u with req := r } := by
  unfold concludeWrite
  rw [show ackMatches a { u with req := r } = ackMatches a u from rfl]
  split <;> rfl

theorem concludeId_withReq (u : State) : concludeId { u with req := r } = { concludeId u with req := r } := by
  unfold concludeId
  rw [show idMatches { u with req := r } = idMatches u from rfl]
  split <;> rfl

theorem conclude_withReq (i : Instr) (u : State) :
    conclude i { u with req := r } = { conclude i u with req := r } := by
  cases i
  case wack | wrreg | wrmask | setgain | gchop | setosr | setpwr => exact concludeWrite_withReq r _ u
  case rdid | begin => exact concludeId_withReq r (takeResponse u)
  all_goals rfl

theorem betweenFrames_withReq (i : Instr) (fr : Fin 4) (u : State) :
    betweenFrames i fr { u with req := r } = { betweenFrames i fr u with req := r } := by
  unfold betweenFrames
  cases maskedArgs u.cfg i with
  | none => rfl
  | some args => by_cases h : fr = 1 <;> simp [h]; rfl

theorem tickOf_withReq (i : Instr) (s : State) :
    tickOf i { s with req := r } = { tickOf i s with req := r } := by
  by_cases hd : i = .drdy
  · subst hd; rfl
  by_cases h0 : s.seq.pos = 0
  · rw [tickOf_first (s := { s with req := r }) hd h0, tickOf_first (s := s) hd h0]
  by_cases h19 : s.seq.pos = 19
  · by_cases hf : s.seq.fr.val + 1 < framesOf i
    case pos =>
      rw [tickOf_nextFrame (s := { s with req := r }) hd h19 hf, tickOf_nextFrame (s := s) hd h19 hf]
      exact betweenFrames_withReq r i s.seq.fr
        { s with bus := setCS s.cfg false s.bus, seq := ⟨true, s.seq.fr + 1, 0⟩ }
    case neg =>
      have last : framesOf i ≤ s.seq.fr.val + 1 := by omega
      rw [tickOf_conclude (s := { s with req := r }) hd h19 last, tickOf_conclude (s := s) hd h19 last]
      exact conclude_withReq r i { s with bus := setCS s.cfg false s.bus }
  · rw [tickOf_exchange (s := { s with req := r }) hd h0 h19, tickOf_exchange (s := s) hd h0 h19]

theorem tick_withReq (s : State) : tick { s with req := r } = withReq r (tick s) := by
  unfold tick
  cases decodeRequest s.lat with
  | error e => rfl
  | ok i =>
    dsimp only
    split
    · rfl
    · unfold withTransport
      split
      · exact congrArg Host.Outcome.next (tickOf_withReq r i s)
      · rfl

theorem ticks_withReq (n : Nat) (s : State) : ticks n { s with req := r } = withReq r (ticks n s) := by
  induction n generalizing s with
  | zero => rfl
  | succ n ih =>
    rw [ticks, ticks, tick_withReq]
    cases tick s with
    | next t => exact ih t
    | fault f => rfl
    | refused x => rfl

end Sys2Proof.Machine
end

section
/-! The obligations of 10_state.md. -/
namespace Sys2Proof.Proofs
open Sys2Proof.Machine

/-- Settles O53: by the kind of step, and for a running core by the position of `SEQ`. -/
theorem stepKeepsInvariant : Obligations.StepKeepsInvariant := by
  unfold Obligations.StepKeepsInvariant
  exact fun s t h hst => step_inv h hst

/-- Settles O44: a failure of the checks, or the operation's conclusion. -/
theorem everyOperationReachesDone : Obligations.EveryOperationReachesDone := by
  unfold Obligations.EveryOperationReachesDone
  refine ⟨⟨rfl, rfl, rfl, rfl⟩, fun s i ht hd => ?_⟩
  by_cases hw : i.wellFormed s.cfg = true
  case pos =>
    obtain ⟨ended, ok_iff, code, inputs⟩ := finishes_effect i s
    refine ⟨effect i s, exec_eq_effect s i hw hd (.inl ht), ended, ok_iff, ?_, inputs⟩
    rcases code with h | h | h <;> simp [h]
  case neg =>
    refine ⟨fail .param s, exec_not_wellFormed (by simpa using hw), ⟨rfl, rfl, rfl⟩, ?_, ?_, sameInputs_refl s⟩ <;>
      simp [failCode]

/-- Settles O45: the events are those of the operation's frames. -/
theorem eventsPerOperation : Obligations.EventsPerOperation := by
  unfold Obligations.EventsPerOperation
  intro s t i hw ht h
  have line : i = .drdy → s.cfg.hasDrdy = true := by
    rintro rfl
    by_contra hd
    simp [exec, execDrdy, hd] at h
  rw [exec_eq_effect s i hw line (.inl ht)] at h
  injection h with h
  subst h
  obtain ⟨es, trace, length, -⟩ := (effect_transacts i s).events
  exact ⟨by rw [trace, List.length_append, length], by cases i <;> rfl⟩

/-- Settles O47: a lane is written only through the sign extender. -/
theorem samplesStayIn24Bits : Obligations.SamplesStayIn24Bits := by
  unfold Obligations.SamplesStayIn24Bits
  intro s t i j h
  obtain rfl | rfl | rfl := exec_next_cases h
  · exact .inl rfl
  · exact .inl rfl
  · exact effect_sample_cases i s j

/-- Settles O49: byte `3k + n` of the frame is byte `n` of container `k`. -/
theorem receivedByteGoesToItsPlace : Obligations.ReceivedByteGoesToItsPlace := by
  unfold Obligations.ReceivedByteGoesToItsPlace
  refine ⟨fun k n i rx => ?_, fun k b0 b1 b2 rx => ?_⟩
  · rw [storeByte_slot]
    refine ⟨by simpa using putByte_place n i rx[k], ?_, fun k' hk => ?_⟩
    · rintro rfl
      simpa using putByte_zero_clears i rx[k]
    · have : k.val ≠ k'.val := fun h => hk (Fin.ext h.symm)
      simp [this]
  · have stored0 := storeByte_slot k 0 b0 rx
    have stored1 := storeByte_slot k 1 b1 (rx.set k (putByte 0 b0 rx[k]))
    have stored2 := storeByte_slot k 2 b2 (rx.set k (putByte 1 b1 (putByte 0 b0 rx[k])))
    simp at stored0 stored1 stored2
    rw [stored0, stored1, stored2, putByte_three]
    rfl

/-- Settles O50: by the position of `SEQ`. -/
theorem sequencerMakesOneCallAStep : Obligations.SequencerMakesOneCallAStep := by
  unfold Obligations.SequencerMakesOneCallAStep
  refine ⟨fun s h run => ?_, fun s i hl ht run runs => ?_⟩
  · refine ⟨?_, ?_, ?_⟩ <;> intro hh <;> simp [step, run, stepBusy, hh]
  refine ⟨fun hd h0 => ?_, fun hd h0 h19 => ?_, fun hd h19 => ?_, ?_⟩
  · exact ⟨_, tick_eq_tickOf hl hd ht, by simp [tickOf_first hd h0]⟩
  · refine ⟨_, nextByte s.bus, tick_eq_tickOf hl hd ht, ?_⟩
    rw [tickOf_exchange hd h0 h19]
    exact ⟨rfl, rfl, rfl, rfl⟩
  · refine ⟨_, tick_eq_tickOf hl hd ht, ?_⟩
    by_cases hf : s.seq.fr.val + 1 < framesOf i
    case pos =>
      obtain ⟨old, new, data, between⟩ := tickOf_nextFrame_fields hd h19 hf
      rw [between]
      exact ⟨rfl, rfl, rfl, fun _ => ⟨rfl, rfl⟩, fun last => absurd last (by omega)⟩
    case neg =>
      rw [tickOf_conclude hd h19 (by omega), conclude_bus, conclude_rx]
      exact ⟨rfl, rfl, rfl, fun more => absurd more hf, fun _ => (finishes_conclude i (sameInputs_refl _)).ended⟩
  · rintro rfl line
    exact ⟨(runs.position run hl).1 rfl, _, nextLevel s.bus, tick_drdy hl line ht, rfl, rfl, rfl, rfl,
      ⟨rfl, rfl, rfl⟩, rfl, rfl⟩

/-- Settles O52: a call neither reads nor writes `REQ`. -/
theorem runningOperationIgnoresRequest : Obligations.RunningOperationIgnoresRequest := by
  unfold Obligations.RunningOperationIgnoresRequest
  intro n s r
  have same := ticks_withReq r n s
  exact ⟨fun t h => by rw [same, h]; rfl, fun x h => by rw [same, h]; rfl⟩

/-- Settles O55: by the kind of step. -/
theorem stepKeepsContainers : Obligations.StepKeepsContainers := by
  unfold Obligations.StepKeepsContainers
  intro s t h noReset hst
  cases run : s.seq.run with
  | true =>
    obtain ⟨r, hs, rfl⟩ | ⟨hs, ht⟩ := stepBusy_next_cases run hst
    · exact h
    · exact tick_containers (s := { s with host := hs }) h ht
  | false =>
    obtain ⟨r, p, hs, rfl⟩ | ⟨hs, reset, -⟩ | ⟨u, hrx, -, hu⟩ := stepIdle_next_cases run hst
    · exact h
    · exact absurd reset (noReset hs)
    · have hu' : Containers u := fun k => by rw [hrx]; exact h k
      obtain hrun | ⟨rfl, -⟩ := hu
      · obtain ⟨n, hn⟩ := hrun.transacts
        exact hn.containers hu'
      · exact hu'

/-- Settles O8: a blocking call is latched, decoded and run. -/
theorem stepRunsDecodedRequest : Obligations.StepRunsDecodedRequest := by
  unfold Obligations.StepRunsDecodedRequest
  intro s r h i run hh hr
  simp only [step, run, stepIdle, hh, runRequest, startPulse_lat, hr]
  rfl

/-- Settles O11: START passes its checks, and an operation without calls is one of three that only compute. -/
theorem startLatchesRequest : Obligations.StartLatchesRequest := by
  unfold Obligations.StartLatchesRequest
  intro s h i run hh hr hw
  have started : step s = beginOp (startPulse { s with host := h }) := by simp [step, run, stepIdle, hh]
  have latched : decodeRequest (startPulse { s with host := h }).lat = .ok i := hr
  refine ⟨fun hc transport => ?_, fun hc => ?_⟩
  · refine ⟨startPulse { s with host := h }, ?_, ?_⟩
    · rw [started, beginOp_checked latched hw transport, if_pos (by simpa [hasCalls] using hc)]
    · simp [sameTemps, sameSamples, noBus]
  · have computes : i ≠ .begin ∧ i ≠ .drdy := by constructor <;> rintro rfl <;> simp [callsOf, framesOf] at hc
    have ran : step s = exec i (startPulse { s with host := h }) := by
      rw [started, beginOp_checked latched hw (absurd · computes.1), if_neg (by simp [hasCalls, hc])]
    refine ⟨ran, effect i (startPulse { s with host := h }), ?_, ?_⟩
    · rw [ran]
      exact exec_eq_effect _ i hw (absurd · computes.2) (.inr hc)
    · cases i
      case decode | scale | gasconv => exact ⟨⟨⟨rfl, rfl, rfl⟩, rfl, rfl⟩, rfl, rfl, rfl, rfl, rfl, rfl, rfl, rfl⟩
      all_goals simp [callsOf, framesOf] at hc

/-- Settles O15: busy or idle, the write is the whole step. -/
theorem hostWriteChangesOnlyRequest : Obligations.HostWriteChangesOnlyRequest := by
  unfold Obligations.HostWriteChangesOnlyRequest
  intro s w h hh
  refine ⟨?_, ?_⟩
  · cases run : s.seq.run <;> simp [step, run, stepBusy, stepIdle, hh]
  · refine ⟨?_, ?_, ?_, ?_, ?_, ?_, ?_⟩ <;> intros <;> subst w <;> rfl

/-- Settles O16: both resets are `State.afterReset`. -/
theorem resetLeavesCoreIdle : Obligations.ResetLeavesCoreIdle := by
  unfold Obligations.ResetLeavesCoreIdle
  refine ⟨⟨rfl, rfl, rfl, rfl, rfl, rfl, rfl, rfl⟩, fun s h run hh => ?_⟩
  refine ⟨coreReset { s with host := h }, by simp [step, run, stepIdle, hh], ?_⟩
  exact ⟨rfl, rfl, rfl, rfl, rfl, rfl, rfl, rfl, rfl, rfl⟩

/-- Settles O17: the idle core only takes what the host's list says. -/
theorem idleCoreStays : Obligations.IdleCoreStays := by
  unfold Obligations.IdleCoreStays
  intro s run
  refine ⟨fun hh => by simp [step, run, stepIdle, hh], fun h hh => ?_⟩
  rcases hh with hh | hh <;> simp [step, run, stepIdle, hh]

/-- Settles O18: a status bit reads as 0 or 1, and a result register only has a free value while `BUSY = 1`. -/
theorem idleHostReadReturnsContent : Obligations.IdleHostReadReturnsContent := by
  unfold Obligations.IdleHostReadReturnsContent
  intro s
  have bit : ∀ b : Bool, (BitVec.ofBool b).setWidth 64 = if b then 1 else 0 := by decide
  refine ⟨⟨rfl, rfl, rfl, rfl, rfl, fun _ => rfl, rfl⟩, ⟨bit _, bit _, bit _, rfl⟩, fun idle => ?_⟩
  have content : ∀ reg, hostRead reg s = regContent s reg := by
    intro reg
    cases reg <;> simp [hostRead, resultIndex, idle]
  simp only [content]
  exact ⟨fun _ => rfl, rfl, fun _ => rfl, rfl, rfl, bit _⟩

/-- Settles O54: the base case of the invariant. -/
theorem resetMeetsInvariant : Obligations.ResetMeetsInvariant := inv_afterReset _ _ _ _

/-- Settles O59: the configuration is the whole step. -/
theorem configureChangesOnlyInputs : Obligations.ConfigureChangesOnlyInputs := by
  unfold Obligations.ConfigureChangesOnlyInputs
  intro s p h run hh
  refine ⟨{ s with cfg := p, host := h }, by simp [step, run, stepIdle, hh], ?_⟩
  simp [sameTemps, sameSamples]

end Sys2Proof.Proofs
end

section
/-! SUPPORT for the statements of 20_memory.md: what a frame does under bytes fixed in advance, and what the register
transactions do under FDEV. -/
namespace Sys2Proof.Machine

/-! ### Bytes fixed in advance (20_memory.md R66) -/

theorem nextByte_scripted {b : Bus} {i : Byte} {is : List Byte} (hd : b.env.dev = none) (hb : b.env.bytes = i :: is) :
    nextByte b = i := by
  simp [nextByte, hd, hb]

theorem xchg_env_scripted {b : Bus} {i : Byte} {is : List Byte} (o : Byte) (hd : b.env.dev = none)
    (hb : b.env.bytes = i :: is) : (xchg o b).env = { b.env with bytes := is } := by
  simp [envAfterXchg, hd, hb]

/-- Chip select takes no byte. -/
theorem envAfterCS_scripted {e : Env} (p : Params) (k : Bool) (hd : e.dev = none) : envAfterCS p k e = e := by
  obtain ⟨dev, bytes, levels⟩ := e
  obtain rfl : dev = none := hd
  rfl

/-- A slot takes the next three bytes, most significant first (R52). -/
theorem slot_scripted {b : Bus} {i0 i1 i2 : Byte} {is : List Byte} (w : Slot) (hd : b.env.dev = none)
    (hb : b.env.bytes = i0 :: i1 :: i2 :: is) :
    (slotBus w b).env = { b.env with bytes := is } ∧
    (slotBus w b).trace = b.trace ++ List.zipWith .x (slotBytes w) [i0, i1, i2] ∧
    slotReceived w b = container i0 i1 i2 := by
  have first := nextByte_scripted hd hb
  have env1 := xchg_env_scripted (w.extractLsb' 16 8) hd hb
  have second := nextByte_scripted (b := xchg (w.extractLsb' 16 8) b) (by rw [env1]; exact hd) (by rw [env1])
  have env2 := xchg_env_scripted (b := xchg (w.extractLsb' 16 8) b) (w.extractLsb' 8 8)
    (by rw [env1]; exact hd) (by rw [env1])
  have third := nextByte_scripted (b := xchg (w.extractLsb' 8 8) (xchg (w.extractLsb' 16 8) b))
    (by rw [env2, env1]; exact hd) (by rw [env2])
  refine ⟨?_, ?_, ?_⟩
  · rw [slotBus, xchg_env_scripted _ (by rw [env2, env1]; exact hd) (by rw [env2]), env2, env1]
  · rw [slotBus_trace, first, second, third]; rfl
  · rw [slotReceived, first, second, third]

/-- Slots take the bytes fixed in advance in order, three each. -/
theorem exchangeSlots_scripted (txs : List Slot) (b : Bus) (is rest : List Byte) (hd : b.env.dev = none)
    (hb : b.env.bytes = is ++ rest) (hl : is.length = 3 * txs.length) :
    (exchangeSlots txs b).2.env = { b.env with bytes := rest } ∧
    (exchangeSlots txs b).2.trace = b.trace ++ List.zipWith .x (txs.flatMap slotBytes) is ∧
    (exchangeSlots txs b).1 = (List.range txs.length).map (slotWord is) := by
  induction txs generalizing b is with
  | nil =>
    obtain rfl : is = [] := by simpa using hl
    simp [exchangeSlots, ← show b.env.bytes = rest from hb]
  | cons tx txs ih =>
    match is, hl with
    | i0 :: i1 :: i2 :: is, hl =>
      obtain ⟨env, trace, received⟩ := slot_scripted (is := is ++ rest) tx hd hb
      obtain ⟨envs, traces, words⟩ := ih (slotBus tx b) is (by rw [env]; exact hd) (by rw [env])
        (by simp only [List.length_cons] at hl; omega)
      refine ⟨?_, ?_, ?_⟩
      · rw [exchangeSlots, envs, env]
      · rw [exchangeSlots, traces, trace]; simp [slotBytes]
      · rw [exchangeSlots, words, received, List.length_cons, List.range_succ_eq_map, List.map_cons, List.map_map]
        rfl

/-- A frame's 18 received bytes are the next 18 fixed in advance. -/
theorem frame_scripted (c d : Half) {s : State} {is rest : List Byte} (hd : s.bus.env.dev = none)
    (hl : is.length = 18) (hb : s.bus.env.bytes = is ++ rest) :
    (frame c d s).bus.env = { s.bus.env with bytes := rest } ∧ (frame c d s).rx = packFrame is ∧
    (frame c d s).bus.trace = s.bus.trace ++ frameEvents c d is := by
  have begun : (setCS s.cfg true s.bus).env = s.bus.env := envAfterCS_scripted _ _ hd
  obtain ⟨env, trace, words⟩ := exchangeSlots_scripted (txSlots c d) (setCS s.cfg true s.bus) is rest
    (by rw [begun]; exact hd) (by rw [begun]; exact hb) hl
  refine ⟨?_, ?_, ?_⟩
  · rw [frame_bus, frameBus, setCS_env, env, begun]; exact envAfterCS_scripted _ _ hd
  · rw [frame_rx, frameReceived, words]; rfl
  · simp [frameBus, trace, frameEvents, frameBytes]

/-! ### FDEV's reactions to the words the core sends (20_memory.md R72) -/

variable {p : Params}

theorem withAddr_ne_opNull {op : Half} (a : Addr) (hop : op &&& opcodeMask = op)
    (hnull : p.opNull &&& addressedMask ≠ op) : withAddr op a ≠ p.opNull :=
  fun h => hnull (h ▸ withAddr_and_addressedMask a hop)

theorem fdevReact_null (p : Params) (v : Half) (f : Fdev) : fdevReact p p.opNull v f = { f with resp := f.reg[1] } :=
  if_pos rfl

theorem fdevReact_read (h : p.wireOk) (a : Addr) (v : Half) (f : Fdev) :
    fdevReact p (withAddr p.opRead a) v f = { f with resp := f.reg[a.toNat] } := by
  obtain ⟨-, hread, -, -, -, hrow⟩ := h
  have hnull := (hrow p.opNull (by simp [Params.standalone])).1
  simp only [fdevReact, withAddr_ne_opNull a hread hnull, withAddr_and_opcodeMask a hread, hread,
    addrOf_withAddr a hread, if_true, if_false]

/-- The acknowledgement FDEV makes of a WRITE word is WACK with its address (30_encoding.md R80, R85). -/
theorem ack_of_write {wack write : Half} (a : Addr) (hwrite : write &&& opcodeMask = write) :
    wack ||| (withAddr write a &&& 0x1F80) = withAddr wack a := by
  rw [← hwrite]
  unfold withAddr opcodeMask
  ext k hk
  rcases halfIndex_cases hk with h|h|h|h|h|h|h|h|h|h|h|h|h|h|h|h <;> subst h <;> simp [BitVec.getElem_shiftLeft]

theorem fdevReact_write (h : p.wireOk) (a : Addr) (v : Half) (f : Fdev) :
    fdevReact p (withAddr p.opWrite a) v f =
      { f with reg := f.reg.set a.toNat v, resp := if f.ackbad then 0 else withAddr p.opWack a } := by
  obtain ⟨-, hread, hwrite, -, hne, hrow⟩ := h
  have hnull := (hrow p.opNull (by simp [Params.standalone])).2
  simp only [fdevReact, withAddr_ne_opNull a hwrite hnull, withAddr_and_opcodeMask a hwrite, hread, hwrite, hne.symm,
    addrOf_withAddr a hwrite, ack_of_write a hwrite, if_true, if_false]

theorem withAddr_ne_zero {op : Half} (a : Addr) (hop : op &&& opcodeMask = op) (hne : op ≠ 0) :
    withAddr op a ≠ 0 := by
  intro zero
  have row := withAddr_and_opcodeMask a hop
  rw [zero] at row
  exact hne (row.symm.trans BitVec.zero_and)

/-! ### Register transactions under FDEV (20_memory.md R74) -/

section
variable {s : State} {f : Fdev} (hw : s.cfg.wireOk) (hd : s.bus.env.dev = some f)
include hw hd

/-- `DevRead` under FDEV: the response is the register, and the registers stay. -/
theorem devRead_fdev (a : Addr) :
    (devRead a s).bus.env.dev = some { f with resp := f.reg[1], got := [] } ∧
    response (devRead a s) = f.reg[a.toNat] := by
  obtain ⟨dev1, -⟩ := frame_fdev (withAddr s.cfg.opRead a) 0#16 s f hd
  rw [fdevReact_read hw] at dev1
  obtain ⟨dev2, answer⟩ := frame_fdev s.cfg.opNull 0#16 _ _ dev1
  rw [frame_cfg, fdevReact_null] at dev2
  exact ⟨dev2, answer⟩

/-- `DevWrite` under FDEV: the register is written, and the response is the acknowledgement unless it is bad. -/
theorem devWrite_fdev (a : Addr) (v : Half) :
    (∃ r, (devWrite a v s).bus.env.dev = some { f with reg := f.reg.set a.toNat v, resp := r, got := [] }) ∧
    response (devWrite a v s) = if f.ackbad then 0 else withAddr s.cfg.opWack a := by
  obtain ⟨dev1, -⟩ := frame_fdev (withAddr s.cfg.opWrite a) v s f hd
  rw [fdevReact_write hw] at dev1
  obtain ⟨dev2, answer⟩ := frame_fdev s.cfg.opNull 0#16 _ _ dev1
  rw [frame_cfg, fdevReact_null] at dev2
  exact ⟨⟨_, dev2⟩, answer⟩

/-- A masked write under FDEV: the register gets the merge, and `RDATA` its old value (41_register_access.md R131). -/
theorem maskedWrite_fdev (a : Addr) (v m : Half) (ack : f.ackbad = false) :
    endedOk (maskedWrite a v m s) ∧ (maskedWrite a v m s).rdata = f.reg[a.toNat] ∧
    (maskedWrite a v m s).cfg = s.cfg ∧
    ∃ r, (maskedWrite a v m s).bus.env.dev =
      some { f with reg := f.reg.set a.toNat (merge f.reg[a.toNat] v m), resp := r, got := [] } := by
  obtain ⟨dev1, old⟩ := devRead_fdev hw hd a
  obtain ⟨⟨r, dev2⟩, answer⟩ :=
    devWrite_fdev (s := captureOld v m (devRead a s)) hw dev1 a (merge f.reg[a.toNat] v m)
  have acked : maskedWrite a v m s =
      succeed (devWrite a (merge f.reg[a.toNat] v m) (captureOld v m (devRead a s))) := by
    rw [maskedWrite, captureOld_tmpNew, old]
    exact concludeWrite_ack (by simpa [ack] using answer)
  rw [acked]
  exact ⟨⟨⟨rfl, rfl, rfl⟩, rfl, rfl⟩, old, rfl, r, dev2⟩

end

end Sys2Proof.Machine
end

section
/-! The obligations of 20_memory.md. -/
namespace Sys2Proof.Proofs
open Sys2Proof.Machine

/-- Settles O23: XFRAME is one frame, and a frame takes the next 18 bytes fixed in advance. -/
theorem scriptedBytesReachRx : Obligations.ScriptedBytesReachRx := by
  unfold Obligations.ScriptedBytesReachRx
  intro s c is rest ht hd hl hb
  obtain ⟨env, rx, trace⟩ := frame_scripted c 0#16 hd hl hb
  refine ⟨effect (.xframe c) s, exec_eq_effect s (.xframe c) rfl nofun (.inl ht), ?_⟩
  simp only [effect, succeed_eq, endFlags_bus, endFlags_rx]
  exact ⟨by rw [env], by rw [env]; exact hd, rx, trace⟩

/-- Settles O56: `DevRead` answers with the register and leaves the registers alone. -/
theorem fdevReadReturnsRegister : Obligations.FdevReadReturnsRegister := by
  unfold Obligations.FdevReadReturnsRegister
  intro s f a ht hw ha hd
  obtain ⟨dev, answer⟩ := devRead_fdev hw hd (addrBits a)
  exact ⟨_, _, exec_eq_effect s (.rdreg a) (by simpa [Instr.wellFormed] using ha) nofun (.inl ht),
    ⟨⟨rfl, rfl, rfl⟩, rfl, rfl⟩, answer, dev, rfl, rfl, rfl⟩

/-- Settles O57: `DevWrite` stores the value, and a bad acknowledgement is 0, which no WACK word is. -/
theorem fdevWriteStoresRegister : Obligations.FdevWriteStoresRegister := by
  unfold Obligations.FdevWriteStoresRegister
  intro s f a v ht hw hwack ha hd
  obtain ⟨⟨r, dev⟩, answer⟩ := devWrite_fdev hw hd (addrBits a) v
  have stored := (congrArg (·.env.dev) (concludeWrite_bus (addrBits a) (devWrite (addrBits a) v s))).trans dev
  refine ⟨_, _, exec_eq_effect s (.wrreg a v) (by simpa [Instr.wellFormed] using ha) nofun (.inl ht), stored, rfl,
    fun good => ?_, fun bad => ?_⟩
  · rw [effect, concludeWrite_ack (by simpa [good] using answer)]
    exact ⟨⟨rfl, rfl, rfl⟩, rfl, rfl⟩
  · obtain ⟨-, -, -, hopcode, -, -⟩ := hw
    have zero : response (devWrite (addrBits a) v s) = 0 := by simpa [bad] using answer
    have noAck := zero.trans_ne (withAddr_ne_zero (addrBits a) hopcode hwack).symm
    rw [effect, concludeWrite_noAck noAck]
    exact ⟨⟨rfl, rfl, rfl⟩, rfl, rfl⟩

/-- Settles O58: the masked write leaves the merge in the register, and the read that follows returns it. -/
theorem fdevMaskedWriteRoundTrip : Obligations.FdevMaskedWriteRoundTrip := by
  unfold Obligations.FdevMaskedWriteRoundTrip
  intro s f a v m ht hw ha hd ack
  obtain ⟨ok, rdata, cfg, r, dev⟩ := maskedWrite_fdev hw hd (addrBits a) v m ack
  obtain ⟨u, -, read, readOk, answer, -⟩ :=
    fdevReadReturnsRegister (maskedWrite (addrBits a) v m s) _ a (by rw [cfg]; exact ht) (by rw [cfg]; exact hw) ha dev
  refine ⟨_, u, exec_eq_effect s (.wrmask a v m) (by simpa [Instr.wellFormed] using ha) nofun (.inl ht), ok, rdata,
    read, readOk, ?_⟩
  exact answer.trans (Vector.getElem_set_self _)

end Sys2Proof.Proofs
end

section
/-! SUPPORT for the statements of 30_encoding.md: what the decoders accept, the bytes of a frame, the address field. -/
namespace Sys2Proof

/-! ### Wire words (30_encoding.md R92, R93) -/

/-- A word without data of its own is read only with a zero in slot 1 (R83). -/
theorem dataless_eq_ok {c d : Half} {i j : Instr} (h : dataless c d i = .ok j) : d = 0 ∧ j = i := by
  unfold dataless at h
  split at h
  case isTrue hd => injection h with h; exact ⟨hd, h.symm⟩
  case isFalse => cases h

theorem encode_of_dataless {p : Params} {c d : Half} {i j : Instr} (h : dataless c d i = .ok j)
    (hi : encode p i = .frame c 0) : encode p j = .frame c d := by
  obtain ⟨rfl, rfl⟩ := dataless_eq_ok h
  exact hi

/-- The decoder reads a word only as the instruction whose encoding it is. -/
theorem encode_of_decodeWire {p : Params} {c d : Half} {i : Instr} (h : decodeWire p c d = .ok i) :
    encode p i = .frame c d := by
  unfold decodeWire at h
  -- NULL to UNLOCK by all 16 bits, then the three addressed rows
  split_ifs at h with hc hc hc hc hc hc hread hwrite hwack
  case pos | pos | pos | pos | pos | pos => exact encode_of_dataless h (by rw [encode, hc])
  · exact encode_of_dataless h (by rw [encode, withAddr_addrOf hread])
  · injection h with h
    rw [← h, encode, withAddr_addrOf hwrite]
  · exact encode_of_dataless h (by rw [encode, withAddr_addrOf hwack])

/-! ### The bytes of a frame (R83, R99) -/

/-- Slots 0 and 1 read back from a frame's bytes. -/
theorem frameBytes_words (c d : Half) :
    (frameBytes c d).getD 0 0 ++ (frameBytes c d).getD 1 0 = c ∧
    (frameBytes c d).getD 3 0 ++ (frameBytes c d).getD 4 0 = d := by
  simp [frameBytes, txSlots]

/-! ### The address field (R80, R85) -/

/-- An opcode with zeros in bits 12:0 is its bits 15:13. -/
theorem and_opcodeMask_of_low_zero {op : Half} (h : op &&& 0x1FFF = 0) : op &&& opcodeMask = op := by
  have parts : op &&& (0x1FFF ||| opcodeMask) = op := BitVec.and_allOnes
  rw [BitVec.and_or_distrib_left, h] at parts
  exact BitVec.zero_or.symm.trans parts

/-- Above the address field nothing is added. -/
theorem extract_opcode_withAddr (op : Half) (a : Addr) :
    (withAddr op a).extractLsb' 13 3 = op.extractLsb' 13 3 := by
  unfold withAddr
  ext k hk
  have past : a.getLsbD (13 + k - 7) = false := BitVec.getLsbD_of_ge a _ (by omega)
  simp [past]

/-- Below the address field nothing is added. -/
theorem extract_low_withAddr (op : Half) (a : Addr) : (withAddr op a).extractLsb' 0 7 = op.extractLsb' 0 7 := by
  unfold withAddr
  ext k hk
  simp
  omega

/-- Zeros in bits 12:0 are zeros in bits 6:0. -/
theorem extract_low_of_low_zero {op : Half} (h : op &&& 0x1FFF = 0) : op.extractLsb' 0 7 = 0 := by
  calc op.extractLsb' 0 7 = (op &&& 0x1FFF).extractLsb' 0 7 := by
        rw [BitVec.extractLsb'_and]; exact BitVec.and_allOnes.symm
    _ = 0 := by rw [h]; rfl

/-! ### Requests (R95, R96, R98) -/

open Machine

theorem decodeRequest_reserved {r : Request} (h : 0x12 ≤ r.op.toNat) : decodeRequest r = .error (.reservedOp r.op) := by
  unfold decodeRequest
  split
  case h_19 => rfl
  all_goals omega

theorem decodeRequest_named {r : Request} (h : r.op.toNat < 0x12) : ∃ i : Instr, decodeRequest r = .ok i := by
  unfold decodeRequest
  interval_cases r.op.toNat <;> exact ⟨_, rfl⟩

theorem decodeRequest_eq_error {r : Request} {e : Reject} :
    decodeRequest r = .error e ↔ 0x12 ≤ r.op.toNat ∧ e = .reservedOp r.op := by
  by_cases hop : 0x12 ≤ r.op.toNat
  · simp [decodeRequest_reserved hop, hop, eq_comm]
  · obtain ⟨i, hi⟩ := decodeRequest_named (Nat.lt_of_not_le hop)
    simp [hi, hop]

/-- A decoded request is the instruction's encoding but for the registers that R96 does not list. -/
theorem encode_of_decodeRequest (p : Params) {r : Request} {i : Instr} (h : decodeRequest r = .ok i) :
    encode p i = .request (operandsOf r) := by
  unfold decodeRequest at h
  split at h
  case h_19 => cases h
  all_goals
    rename_i hop
    injection h with h
    simp [← h, encode, operandsOf, Request.ofOp, BitVec.toNat_eq, hop]

theorem decodeRequest_of_encode {p : Params} {r : Request} {i : Instr} (h : encode p i = .request r) :
    decodeRequest r = .ok i := by
  cases i <;> cases h <;> rfl

theorem operandsOf_op (r : Request) : (operandsOf r).op = r.op := by
  unfold operandsOf
  split <;> rfl

/-- The registers that R96 does not list are ignored: both requests are reserved, or encode one instruction. -/
theorem decodeRequest_operandsOf (r : Request) : decodeRequest (operandsOf r) = decodeRequest r := by
  cases hr : decodeRequest r with
  | ok i => exact decodeRequest_of_encode (encode_of_decodeRequest Params.default hr)
  | error e =>
    rw [decodeRequest_eq_error] at hr ⊢
    rwa [operandsOf_op]

/-! ### Table words (log 16) -/

theorem decodeTableWord_eq_some {n w : Nat} {i : Instr} (h : decodeTableWord n w = some i) :
    ∃ e, tableEncoding n w = some e ∧ decode Params.default e = .ok i := by
  unfold decodeTableWord at h
  split at h
  case h_1 e he =>
    cases hd : decode Params.default e with
    | ok j => rw [hd] at h; injection h with h; exact ⟨e, he, h ▸ hd⟩
    | error x => rw [hd] at h; cases h
  case h_2 => cases h

/-- A row of 8 bits is an `OP`. -/
theorem tableEncoding_op {w : Nat} {e : Encoding} (h : tableEncoding 8 w = some e) :
    e = .request (Request.ofOp (BitVec.ofNat 5 w)) := by
  obtain ⟨-, rfl⟩ : w < 32 ∧ .request (Request.ofOp (BitVec.ofNat 5 w)) = e := by simpa [tableEncoding] using h
  rfl

/-- A row of 16 bits is a wire word. -/
theorem tableEncoding_word {w : Nat} {e : Encoding} (h : tableEncoding 16 w = some e) : ∃ c d, e = .frame c d := by
  obtain ⟨-, rfl⟩ : w < 2 ^ 32 ∧ .frame (BitVec.ofNat 16 w) (BitVec.ofNat 16 (w / 65536)) = e := by
    simpa [tableEncoding] using h
  exact ⟨_, _, rfl⟩

end Sys2Proof
end

section
/-! SUPPORT for the statements of 30_encoding.md: what a placed encoding runs, and the expansions of R101. -/
namespace Sys2Proof.Machine

variable {s : State}

theorem step_placeFetch_request {r : Request} {i : Instr} (h : decodeRequest r = .ok i) :
    step (placeFetch (some (.request r)) s) =
      exec i { s with req := r, lat := r, busy := true, done := false, ok := false, err := 0, seq := ⟨true, 0, 0⟩ } :=
  Proofs.stepRunsDecodedRequest _ r s.host i rfl rfl h

theorem step_placeFetch_frame {c d : Half} {i : Instr} (h : decodeWire s.cfg c d = .ok i) :
    step (placeFetch (some (.frame c d)) s) = exec i { s with busy := false, seq := SeqState.idle } := by
  simp [step, placeFetch, SeqState.idle, stepIdle, runWire, h]

/-- An operation with its operands in range runs, if it answers; only BEGIN without a transport ends in INIT. -/
theorem exec_wellFormed_next_cases {i : Instr} {t : State} (hw : i.wellFormed s.cfg = true)
    (h : exec i s = .next t) : t = fail .init s ∨ t = effect i s := by
  by_cases hb : i = .begin ∧ s.cfg.transportValid = false
  · obtain ⟨rfl, ht⟩ := hb
    simp only [exec, execBegin, ht] at h
    injection h with h
    exact .inl h.symm
  have line : i = .drdy → s.cfg.hasDrdy = true := by
    rintro rfl
    by_contra hd
    simp [exec, execDrdy, hd] at h
  have transport : s.cfg.transportValid = true ∨ callsOf i = 0 := by
    by_contra! hc
    have invalid : s.cfg.transportValid = false := by simpa using hc.1
    rw [exec_transportInvalid invalid hw (Nat.pos_of_ne_zero hc.2) (fun h => hb ⟨h, invalid⟩) line] at h
    cases h
  rw [exec_eq_effect s i hw line transport] at h
  injection h with h
  exact .inr h.symm

/-! ### What an expansion's parts lead to, one after the other (R101) -/

variable (s) (a : Byte)

theorem effect_rdreg : effect (.rdreg a) s = takeResponse (effect .null (effect (.read (addrBits a)) s)) := rfl

theorem effect_wrreg (v : Half) :
    effect (.wrreg a v) s = effect (.wack (addrBits a)) (effect (.write (addrBits a) v) s) := rfl

/-- RDREG, the merge into the temporaries, and WRREG of it (41_register_access.md R131). -/
theorem effect_wrmask (v m : Half) :
    effect (.wrmask a v m) s =
      effect (.wrreg a (merge (effect (.rdreg a) s).rdata v m)) (captureOld v m (effect (.rdreg a) s)) := rfl

/-- RDCH is RDCHS with one lane (42_sample_decode.md R144, R146). -/
theorem takeChannel_eq_takeLanes (i : Byte) : takeChannel i s = takeLanes #v[i, 0, 0, 0] 1 s := by
  have lanes : (takeChannel i s).sample = (takeLanes #v[i, 0, 0, 0] 1 s).sample := by
    ext j hj
    match j with
    | 0 | 1 | 2 | 3 => simp [laneValue]
  exact congrArg (fun v => { s with sample := v }) lanes

theorem effect_rdch (i : Byte) : effect (.rdch i) s = effect (.rdchs #v[i, 0, 0, 0] 1) s :=
  congrArg succeed (takeChannel_eq_takeLanes (frame s.cfg.opNull 0#16 s) i)

theorem effect_rdvolt (i : Byte) :
    effect (.rdvolt i) s = effect (.scale (effect (.rdch i) s).sample[0]) (effect (.rdch i) s) := rfl

/-- SCALE takes every sample that RDCH leaves in lane 0 (43_scaling.md R160). -/
theorem wellFormed_scale_rdch (p : Params) (i : Byte) :
    (Instr.scale (effect (.rdch i) s).sample[0]).wellFormed p = true := by
  have sampled : (effect (.rdch i) s).sample[0] = decode32 (channelWord (frame s.cfg.opNull 0#16 s).rx i) :=
    Vector.getElem_set_self _
  obtain ⟨lower, upper⟩ := decode32_inRange24 (channelWord (frame s.cfg.opNull 0#16 s).rx i)
  simp only [Instr.wellFormed, sampled, lower, upper, decide_true, Bool.and_self]

/-- RDID is RDREG of register 0x00 and the identity compare (44_config_ops.md R170). -/
theorem effect_rdid : effect .rdid s = concludeId (effect (.rdreg 0x00) s) := rfl

section
variable {s} (ht : s.cfg.transportValid = true)
include ht

theorem exec_of_transport {i : Instr} (hw : i.wellFormed s.cfg = true) (hd : i ≠ .drdy) :
    exec i s = .next (effect i s) :=
  exec_eq_effect s i hw (absurd · hd) (.inl ht)

theorem eq_effect_of_exec {i : Instr} {t : State} (h : exec i s = .next t) (hw : i.wellFormed s.cfg = true)
    (hd : i ≠ .drdy) : t = effect i s := by
  rw [exec_of_transport ht hw hd] at h
  injection h with h
  exact h.symm

/-- Operations in range lead to one answer if they lead to one state, from states with the same configuration. -/
theorem exec_congr {i j : Instr} {t : State} (hi : i.wellFormed s.cfg = true) (hj : j.wellFormed s.cfg = true)
    (hc : t.cfg = s.cfg) (h : effect i s = effect j t) (hdi : i ≠ .drdy := by nofun) (hdj : j ≠ .drdy := by nofun) :
    exec i s = exec j t := by
  rw [exec_of_transport ht hi hdi, exec_of_transport (hc ▸ ht) (hc ▸ hj) hdj, h]

end

end Sys2Proof.Machine
end

section
/-! The obligations of 30_encoding.md. -/
namespace Sys2Proof.Proofs
open Sys2Proof.Machine

/-- Settles O3: row by row of the decoder. -/
theorem decodedFrameIsTheEncoding : Obligations.DecodedFrameIsTheEncoding := by
  unfold Obligations.DecodedFrameIsTheEncoding
  exact fun p c d i _ h => encode_of_decodeWire h

/-- Settles O4: by the value of `OP`. -/
theorem requestDecodesByItsOp : Obligations.RequestDecodesByItsOp := by
  unfold Obligations.RequestDecodesByItsOp
  exact ⟨fun r e => decodeRequest_eq_error, fun p r i h => encode_of_decodeRequest p h,
    fun r => (decodeRequest_operandsOf r).symm⟩

/-- Settles O6: slots 0 and 1 read back from a frame's bytes. -/
theorem frameBytesDecode : Obligations.FrameBytesDecode := by
  unfold Obligations.FrameBytesDecode
  refine ⟨fun p c d => ?_, fun p bs i h => ?_⟩
  · obtain ⟨slot0, slot1⟩ := frameBytes_words c d
    simp only [decodeBytes, frameBytes_length, slot0, slot1, ne_eq, not_true, if_false, if_true]
  · simp only [decodeBytes] at h
    split_ifs at h with hlen hbytes
    exact ⟨_, _, hbytes, h⟩

/-- Settles O7: by the fields of the command word. -/
theorem addressFieldOfCommandWord : Obligations.AddressFieldOfCommandWord := by
  unfold Obligations.AddressFieldOfCommandWord
  exact fun op a h => ⟨extract_opcode_withAddr op a, addrOf_withAddr a (and_opcodeMask_of_low_zero h),
    (extract_low_withAddr op a).trans (extract_low_of_low_zero h)⟩

/-- Settles O43: a failed check is PARAM, and an operation that runs ends otherwise. -/
theorem paramFailsExactlyOutsideRanges : Obligations.ParamFailsExactlyOutsideRanges := by
  unfold Obligations.ParamFailsExactlyOutsideRanges
  refine fun s i => ⟨fun hw => failsParam_of (exec_not_wellFormed hw), fun hw t h param => ?_⟩
  obtain ⟨-, code⟩ := param
  obtain rfl | rfl := exec_wellFormed_next_cases hw h
  · simp [failCode] at code
  · obtain e | e | e := (finishes_effect i s).err_code <;> simp [e] at code

/-- Settles O48: the parts lead one after the other to the state that the operation leads to. -/
theorem operationsExpandAsListed : Obligations.OperationsExpandAsListed := by
  unfold Obligations.OperationsExpandAsListed
  intro s ht
  refine ⟨?xframe, ?xframeAddressed, ?cmd, ?rdreg, ?wrreg, ?wrmask, ?rdch, ?rdvolt, ?rdid, ?begin, ?setgain, ?gchop,
    ?setosr, ?setpwr⟩
  case xframe => refine ⟨?_, ?_, ?_, ?_, ?_, ?_⟩ <;> exact exec_congr ht rfl rfl rfl rfl
  case xframeAddressed => exact fun a => ⟨exec_congr ht rfl rfl rfl rfl, exec_congr ht rfl rfl rfl rfl⟩
  case cmd => refine ⟨?_, ?_, ?_, ?_, ?_, ?_⟩ <;> exact exec_congr ht rfl rfl rfl rfl
  case rdreg =>
    intro a s1 s2 ha h1 h2
    obtain rfl := eq_effect_of_exec ht h1 rfl nofun
    obtain rfl := eq_effect_of_exec (s := effect (.read (addrBits a)) s) ht h2 rfl nofun
    rw [exec_of_transport ht (i := .rdreg a) (decide_eq_true ha) nofun, effect_rdreg]
    rfl
  case wrreg =>
    intro a v s1 ha h1
    obtain rfl := eq_effect_of_exec ht h1 rfl nofun
    exact exec_congr ht (decide_eq_true ha) rfl rfl (effect_wrreg s a v)
  case wrmask =>
    intro a v m s1 h1 ha
    obtain rfl := eq_effect_of_exec ht h1 (decide_eq_true ha) nofun
    exact exec_congr ht (decide_eq_true ha) (decide_eq_true ha) rfl (effect_wrmask s a v m)
  case rdch =>
    intro i hi
    have lanes : (Instr.rdchs #v[i, 0, 0, 0] 1).wellFormed s.cfg = true := by simpa [Instr.wellFormed] using hi
    exact exec_congr ht (decide_eq_true hi) lanes rfl (effect_rdch s i)
  case rdvolt =>
    intro i s1 hi h1
    obtain rfl := eq_effect_of_exec ht h1 (decide_eq_true hi) nofun
    exact exec_congr ht (decide_eq_true hi) (wellFormed_scale_rdch s _ i) rfl (effect_rdvolt s i)
  case rdid =>
    intro s1 h1
    obtain rfl := eq_effect_of_exec ht h1 rfl nofun
    rw [exec_of_transport ht (i := .rdid) rfl nofun, effect_rdid]
    split
    case isTrue hid => rw [concludeId_match hid]; rfl
    case isFalse hid => rw [concludeId_mismatch hid]; rfl
  case begin => exact exec_congr ht rfl rfl rfl rfl
  case setgain =>
    exact fun g hg => exec_congr ht ((wellFormed_setgain _ g).mpr ⟨hg 0, hg 1, hg 2, hg 3⟩) rfl rfl rfl
  case gchop =>
    intro en delay hen hpos hmax
    exact exec_congr ht (by simp [Instr.wellFormed, hen, hpos, hmax]) rfl rfl rfl
  case setosr => exact fun c hc => exec_congr ht (decide_eq_true hc) rfl rfl rfl
  case setpwr => exact fun c hc => exec_congr ht (decide_eq_true hc) rfl rfl rfl

/-- Settles O1: the decoder on each word. -/
theorem tableWordsDecode : Obligations.TableWordsDecode := by
  unfold Obligations.TableWordsDecode
  decide

/-- Settles O10: a table word of 8 bits is placed as a blocking call, one of 16 as a wire word. -/
theorem fetchedTableWordRuns : Obligations.FetchedTableWordRuns := by
  unfold Obligations.FetchedTableWordRuns
  refine ⟨fun s w i h => ?_, fun s w i hcfg h => ?_⟩
  · obtain ⟨e, he, hd⟩ := decodeTableWord_eq_some h
    obtain rfl := tableEncoding_op he
    rw [State.withFetchWord, he]
    exact step_placeFetch_request hd
  · obtain ⟨e, he, hd⟩ := decodeTableWord_eq_some h
    obtain ⟨c, d, rfl⟩ := tableEncoding_word he
    rw [State.withFetchWord, he]
    exact step_placeFetch_frame (hcfg ▸ hd)

/-- Settles O12: both forms of START latch the request, and a reserved `OP` names no operation. -/
theorem reservedOpEndsWithParam : Obligations.ReservedOpEndsWithParam := by
  unfold Obligations.ReservedOpEndsWithParam
  intro s r h run hop start
  have reserved := decodeRequest_reserved hop
  refine ⟨fail .param (startPulse { s with host := h, req := r }), ?_, ?_⟩
  · obtain call | ⟨start, rfl⟩ := start
    · simp [step, run, stepIdle, call, runRequest, reserved]
    · simp [step, run, stepIdle, start, beginOp, reserved]
  · simp [endedFail, ended, sameTemps, sameSamples, noBus]

end Sys2Proof.Proofs
end

section
/-! SUPPORT for the statements of 40_frame_transport.md: the bytes of a frame by position, and the frames that the sequencer
makes one call at a time. -/
namespace Sys2Proof.Machine

/-! ### One frame in one step (R111) -/

/-- An operation that is one frame and succeeds changes `RX` and the status fields only. -/
theorem sendsOneFrame_of_exec {i : Instr} {c d : Half} {s : State} (h : exec i s = .next (succeed (frame c d s))) :
    sendsOneFrame i c d s := by
  obtain ⟨is, length, trace, received, -⟩ := frameBus_spec s.cfg c d s.bus
  exact ⟨_, is, h, ⟨length, trace, received, rfl⟩, ⟨⟨rfl, rfl, rfl⟩, rfl, rfl⟩, ⟨rfl, rfl, rfl, rfl⟩, ⟨rfl, rfl⟩, rfl,
    rfl, rfl, rfl, rfl⟩

/-! ### The transmit bytes (R112) -/

/-- Slot `k` of a frame is sent as its bytes `3k` to `3k + 2`. -/
theorem slotBytes_txSlots {c d : Half} {k : Nat} {tx : Slot} (h : (txSlots c d)[k]? = some tx) :
    slotBytes tx = [txByte c d (3 * k), txByte c d (3 * k + 1), txByte c d (3 * k + 2)] := by
  match k, h with
  | 0, rfl | 1, rfl => exact slotBytes_slotOf _
  | 2, rfl | 3, rfl | 4, rfl | 5, rfl => exact slotBytes_zero

theorem frameBytes_eq_map_txByte (c d : Half) : frameBytes c d = (List.range 18).map (txByte c d) := by
  simp [frameBytes, txSlots, List.range_succ, txByte]

/-! ### The slots of a frame, three calls each (10_state.md R28, R29) -/

/-- `RX` with containers stored from slot `k` on. -/
def storeSlots : Nat → List Cont → Vector Cont 6 → Vector Cont 6
  | _, [], rx => rx
  | k, w :: ws, rx => storeSlots (k + 1) ws (rx.setIfInBounds k w)

/-- Six containers stored from slot 0 on are the whole register file (R114). -/
theorem storeSlots_six {ws : List Cont} (h : ws.length = 6) (rx : Vector Cont 6) : storeSlots 0 ws rx = rxOf ws := by
  match ws, h with
  | [w0, w1, w2, w3, w4, w5], _ =>
    ext k hk
    simp [storeSlots, rxOf, Vector.getElem_setIfInBounds]
    grind

/-- Steps of the running core, the first one taken. -/
theorem ticks_of_tick {s t : State} (h : tick s = .next t) (n : Nat) : ticks (n + 1) s = ticks n t := by
  rw [ticks, h]

/-- The state after byte `n` of slot `k` of the frame that sends `c` and `d` (10_state.md R28, R29). -/
def byteExchanged (c d : Half) (k : Fin 6) (n : Fin 3) (s : State) : State :=
  { s with
    bus := xchg (txByte c d (3 * k.val + n.val)) s.bus
    rx := s.rx.set k (putByte n.val (nextByte s.bus) s.rx[k])
    seq := ⟨true, s.seq.fr, s.seq.pos + 1⟩ }

/-- The state after slot `k` of a frame, which sends `tx`. -/
def slotExchanged (k : Nat) (tx : Slot) (s : State) : State :=
  { s with
    bus := slotBus tx s.bus
    rx := s.rx.setIfInBounds k (slotReceived tx s.bus)
    seq := ⟨true, s.seq.fr, s.seq.pos + 3⟩ }

section Slots
variable {s : State} {i : Instr} {c d : Half} (hl : decodeRequest s.lat = .ok i) (hd : i ≠ .drdy)
  (ht : s.cfg.transportValid = true)
include hl hd ht

theorem tick_byte (hw : txWords s.cfg i s.tmpNew s.seq.fr = (c, d)) (k : Fin 6) (n : Fin 3)
    (hp : s.seq.pos.val = 3 * k.val + n.val + 1) : tick s = .next (byteExchanged c d k n s) := by
  have not_first : s.seq.pos ≠ 0 := by omega
  have not_last : s.seq.pos ≠ 19 := by omega
  rw [tick_eq_tickOf hl hd ht, tickOf_exchange hd not_first not_last, hw, hp, Nat.add_sub_cancel, storeByte_slot]
  rfl

/-- Three calls are the exchange of a slot. -/
theorem ticks_slot (hw : txWords s.cfg i s.tmpNew s.seq.fr = (c, d)) {k : Nat} (hp : s.seq.pos.val = 3 * k + 1)
    {tx : Slot} (hx : (txSlots c d)[k]? = some tx) : ticks 3 s = .next (slotExchanged k tx s) := by
  have hk : k < 6 := (List.getElem?_eq_some_iff.mp hx).1
  have pos1 : (s.seq.pos + 1).val = 3 * k + 1 + 1 := by omega
  have pos2 : (s.seq.pos + 1 + 1).val = 3 * k + 2 + 1 := by omega
  have byte0 := tick_byte hl hd ht hw ⟨k, hk⟩ 0 hp
  have byte1 := tick_byte (s := byteExchanged c d ⟨k, hk⟩ 0 s) hl hd ht hw ⟨k, hk⟩ 1 pos1
  have byte2 := tick_byte (s := byteExchanged c d ⟨k, hk⟩ 1 (byteExchanged c d ⟨k, hk⟩ 0 s)) hl hd ht hw ⟨k, hk⟩ 2 pos2
  have sent := slotBytes_txSlots hx
  simp only [slotBytes, List.cons.injEq, and_true] at sent
  obtain ⟨sent0, sent1, sent2⟩ := sent
  rw [ticks_of_tick byte0, ticks_of_tick byte1, ticks_of_tick byte2]
  have stored (w : Cont) : s.rx.setIfInBounds k w = s.rx.set k w := by
    ext j hj
    simp [Vector.getElem_set, Vector.getElem_setIfInBounds]
  have moved : s.seq.pos + 1 + 1 + 1 = s.seq.pos + 3 := by omega
  simp [ticks, byteExchanged, slotExchanged, slotBus, slotReceived, sent0, sent1, sent2, putByte_three, stored, moved]

/-- The calls of the slots from `k` on lead to position 19. -/
theorem ticks_slots (hw : txWords s.cfg i s.tmpNew s.seq.fr = (c, d)) (hr : s.seq.run = true) {k : Nat}
    (hp : s.seq.pos.val = 3 * k + 1) {txs : List Slot} (hs : txs = (txSlots c d).drop k) :
    ticks (3 * txs.length) s = .next { s with
      bus := (exchangeSlots txs s.bus).2
      rx := storeSlots k (exchangeSlots txs s.bus).1 s.rx
      seq := ⟨true, s.seq.fr, 19⟩ } := by
  have hk : k + txs.length = 6 := by
    have := s.seq.pos.isLt
    simp [hs, txSlots]
    omega
  induction txs generalizing s k with
  | nil =>
    have pos19 : s.seq.pos = 19 := by
      rw [List.length_nil] at hk
      omega
    have last : s.seq = ⟨true, s.seq.fr, 19⟩ := by rw [← hr, ← pos19]
    simp only [List.length_nil, Nat.mul_zero, ticks, exchangeSlots, storeSlots, ← last]
  | cons tx txs ih =>
    rw [List.length_cons] at hk
    have slot := ticks_slot hl hd ht hw hp (tx := tx) (by rw [← List.head?_drop, ← hs, List.head?_cons])
    have pos_next : (s.seq.pos + 3).val = 3 * (k + 1) + 1 := by omega
    have rest := ih (s := slotExchanged k tx s) hl ht hw rfl pos_next (by simpa using congrArg List.tail hs) (by omega)
    rw [List.length_cons, Nat.mul_succ, Nat.add_comm, ticks_add slot, rest]
    rfl

end Slots

/-! ### The frames of an operation, twenty calls each (R113; 10_state.md R32) -/

/-- The state at position 19 of the frame that is running: chip select is still asserted. -/
def bytesExchanged (i : Instr) (s : State) : State :=
  let w := txWords s.cfg i s.tmpNew s.seq.fr
  { s with
    bus := (exchangeSlots (txSlots w.1 w.2) (setCS s.cfg true s.bus)).2
    rx := rxOf (frameReceived s.cfg w.1 w.2 s.bus)
    seq := ⟨true, s.seq.fr, 19⟩ }

/-- Frame `fr` of an operation. -/
def frameOf (i : Instr) (fr : Fin 4) (s : State) : State :=
  frame (txWords s.cfg i s.tmpNew fr).1 (txWords s.cfg i s.tmpNew fr).2 s

/-- Frame `fr` and the `n` frames after it, with what is done between them. -/
def framesFrom (i : Instr) : Nat → Fin 4 → State → State
  | 0, fr, s => frameOf i fr s
  | n + 1, fr, s => framesFrom i n (fr + 1) (betweenFrames i fr (frameOf i fr s))

/-- The state at position 0 of the next frame. -/
def nextFrame (i : Instr) (s : State) : State :=
  { betweenFrames i s.seq.fr (frameOf i s.seq.fr s) with seq := ⟨true, s.seq.fr + 1, 0⟩ }

theorem nextFrame_inputs (i : Instr) (s : State) : (nextFrame i s).lat = s.lat ∧ (nextFrame i s).cfg = s.cfg := by
  obtain ⟨old, new, data, between⟩ := betweenFrames_eq i s.seq.fr (frameOf i s.seq.fr s)
  rw [nextFrame, between]
  exact ⟨rfl, rfl⟩

theorem betweenFrames_withSeq (i : Instr) (fr : Fin 4) (u : State) (x : SeqState) :
    betweenFrames i fr { u with seq := x } = { betweenFrames i fr u with seq := x } := by
  unfold betweenFrames
  cases maskedArgs u.cfg i with
  | none => rfl
  | some args => by_cases h : fr = 1 <;> simp [h]; rfl

theorem framesFrom_withSeq (i : Instr) (n : Nat) (fr : Fin 4) (u : State) (x : SeqState) :
    framesFrom i n fr { u with seq := x } = { framesFrom i n fr u with seq := x } := by
  induction n generalizing fr u with
  | zero => rfl
  | succ n ih =>
    rw [framesFrom, framesFrom, ← ih, ← betweenFrames_withSeq]
    rfl

/-- The frames of an operation are its body (each operation's rule, and R112). -/
theorem framesFrom_eq_opBody {i : Instr} (hf : 0 < framesOf i) (s : State) :
    framesFrom i (framesOf i - 1) 0 s = opBody i s := by
  cases i
  case drdy | decode | scale | gasconv => simp [framesOf] at hf
  all_goals rfl

section Frames
variable {s : State} {i : Instr} (hl : decodeRequest s.lat = .ok i) (hd : i ≠ .drdy)
  (ht : s.cfg.transportValid = true)
include hl hd ht

/-- Nineteen calls lead to position 19 of a frame. -/
theorem ticks_bytes (h0 : s.seq.pos = 0) : ticks 19 s = .next (bytesExchanged i s) := by
  have first : tick s = .next { s with bus := setCS s.cfg true s.bus, seq := ⟨true, s.seq.fr, 1⟩ } := by
    rw [tick_eq_tickOf hl hd ht, tickOf_first hd h0]
  have slots := ticks_slots (s := { s with bus := setCS s.cfg true s.bus, seq := ⟨true, s.seq.fr, 1⟩ }) hl hd ht
    Prod.mk.eta.symm rfl (k := 0) rfl rfl
  rw [List.drop_zero, storeSlots_six rfl] at slots
  rw [ticks_of_tick first]
  exact slots

/-- Twenty calls are a frame (R113), the last of them the call at position 19. -/
theorem ticks_frame (h0 : s.seq.pos = 0) : ticks 20 s = .next (tickOf i (bytesExchanged i s)) := by
  have last : tick (bytesExchanged i s) = .next (tickOf i (bytesExchanged i s)) := tick_eq_tickOf hl hd ht
  rw [ticks_add (n := 1) (ticks_bytes hl hd ht h0)]
  exact ticks_of_tick last 0

theorem ticks_lastFrame (h0 : s.seq.pos = 0) (hf : framesOf i ≤ s.seq.fr.val + 1) :
    ticks 20 s = .next (conclude i (frameOf i s.seq.fr s)) := by
  rw [ticks_frame hl hd ht h0, tickOf_conclude (s := bytesExchanged i s) hd rfl hf]
  exact congrArg Host.Outcome.next (conclude_withSeq i (frameOf i s.seq.fr s) _)

theorem ticks_earlierFrame (h0 : s.seq.pos = 0) (hf : s.seq.fr.val + 1 < framesOf i) :
    ticks 20 s = .next (nextFrame i s) := by
  rw [ticks_frame hl hd ht h0, tickOf_nextFrame (s := bytesExchanged i s) hd rfl hf]
  exact congrArg Host.Outcome.next (betweenFrames_withSeq i s.seq.fr (frameOf i s.seq.fr s) _)

/-- The frames that are left, and the operation's conclusion. -/
theorem ticks_frames (n : Nat) (h0 : s.seq.pos = 0) (hf : s.seq.fr.val + (n + 1) = framesOf i) :
    ticks (20 * (n + 1)) s = .next (conclude i (framesFrom i n s.seq.fr s)) := by
  induction n generalizing s with
  | zero => exact ticks_lastFrame hl hd ht h0 hf.ge
  | succ n ih =>
    have more : s.seq.fr.val + 1 < framesOf i := by omega
    have fr_next : (nextFrame i s).seq.fr.val = s.seq.fr.val + 1 := val_succ_frame more
    obtain ⟨latch, config⟩ := nextFrame_inputs i s
    have rest := ih (s := nextFrame i s) (by rw [latch, hl]) (by rw [config, ht]) rfl (by rw [fr_next, ← hf]; omega)
    rw [Nat.mul_succ, Nat.add_comm, ticks_add (ticks_earlierFrame hl hd ht h0 more), rest, nextFrame, framesFrom_withSeq,
      conclude_withSeq]
    rfl

end Frames

/-- The calls of an operation that makes any lead from just after START to its effect. -/
theorem ticks_eq_effect {s : State} {i : Instr} (hl : decodeRequest s.lat = .ok i) (hc : 0 < callsOf i)
    (ht : s.cfg.transportValid = true) (hd : i = .drdy → s.cfg.hasDrdy = true) (hs : s.seq = ⟨true, 0, 0⟩) :
    ticks (callsOf i) s = .next (effect i s) := by
  by_cases h : i = .drdy
  · subst h
    exact ticks_of_tick (tick_drdy hl (hd rfl) ht) 0
  · have calls : callsOf i = 20 * framesOf i := by simp [callsOf]
    have frames : framesOf i - 1 + 1 = framesOf i := by omega
    have run := ticks_frames hl h ht (framesOf i - 1) (congrArg SeqState.pos hs) (by simp [hs, frames])
    rw [frames, ← calls, hs, framesFrom_eq_opBody (by omega), ← effect_eq_conclude] at run
    exact run

end Sys2Proof.Machine
end

section
/-! The obligations of 40_frame_transport.md. -/
namespace Sys2Proof.Proofs
open Sys2Proof.Machine

/-- Settles O51: slot by slot within a frame, frame by frame within an operation. -/
theorem sequencerAgreesWithOperation : Obligations.SequencerAgreesWithOperation := by
  unfold Obligations.SequencerAgreesWithOperation
  intro s i hl hw hc ht hd hs
  rw [exec_eq_effect s i hw hd (.inl ht)]
  exact ticks_eq_effect hl hc ht hd hs

/-- Settles O19: XFRAME is one frame that succeeds. -/
theorem xframeSendsAnyWord : Obligations.XframeSendsAnyWord := by
  unfold Obligations.XframeSendsAnyWord
  refine ⟨fun r h => by simp [decodeRequest, h], fun s c ht => sendsOneFrame_of_exec ?_⟩
  exact exec_eq_effect s (.xframe c) rfl nofun (.inl ht)

/-- Settles O5: by the position of the byte. -/
theorem transmitByteByPosition : Obligations.TransmitByteByPosition := by
  unfold Obligations.TransmitByteByPosition
  refine fun c d => ⟨rfl, rfl, rfl, rfl, fun b h0 h1 h3 h4 => ?_, frameBytes_eq_map_txByte c d⟩
  unfold txByte
  split
  case h_5 => rfl
  all_goals contradiction

end Sys2Proof.Proofs
end

section
/-! SUPPORT for the statements of 41_register_access.md: the decoder on the words that the encoder makes
(30_encoding.md R92, R93). -/
namespace Sys2Proof

variable {p : Params}

/-- Each standalone word is read as its own instruction, since R93 tests all 16 bits and the six words are distinct. -/
theorem decodeWire_standalone (h : p.standalone.Nodup) (d : Half) :
    decodeWire p p.opNull d = dataless p.opNull d .null ∧
    decodeWire p p.opReset d = dataless p.opReset d .reset ∧
    decodeWire p p.opStandby d = dataless p.opStandby d .standby ∧
    decodeWire p p.opWakeup d = dataless p.opWakeup d .wakeup ∧
    decodeWire p p.opLock d = dataless p.opLock d .lock ∧
    decodeWire p p.opUnlock d = dataless p.opUnlock d .unlock := by
  -- backwards, the list says of each word that no earlier test takes it
  have distinct := List.nodup_reverse.mpr h
  simp [Params.standalone] at distinct
  simp [decodeWire, distinct]

/-- No addressed word is standalone where no standalone word stands in its row. -/
theorem withAddr_notMem_standalone {op : Half} (a : Addr) (hop : op &&& opcodeMask = op)
    (row : ∀ c ∈ p.standalone, c &&& addressedMask ≠ op) : withAddr op a ∉ p.standalone :=
  fun mem => row _ mem (withAddr_and_addressedMask a hop)

section Rows
variable {c : Half} (h : c ∉ p.standalone) (d : Half)
include h

/-- A word that is not standalone is read by its row under R92's mask: READ's first, then WRITE's, then WACK's. -/
theorem decodeWire_of_readRow (read : c &&& addressedMask = p.opRead) :
    decodeWire p c d = dataless c d (.read (addrOf c)) := by
  simp [Params.standalone] at h
  simp [decodeWire, h, read]

theorem decodeWire_of_writeRow (read : c &&& addressedMask ≠ p.opRead) (write : c &&& addressedMask = p.opWrite) :
    decodeWire p c d = .ok (.write (addrOf c) d) := by
  simp [Params.standalone] at h
  rw [write] at read
  simp [decodeWire, h, read, write]

theorem decodeWire_of_wackRow (read : c &&& addressedMask ≠ p.opRead) (write : c &&& addressedMask ≠ p.opWrite)
    (wack : c &&& addressedMask = p.opWack) : decodeWire p c d = dataless c d (.wack (addrOf c)) := by
  simp [Params.standalone] at h
  rw [wack] at read write
  simp [decodeWire, h, read, write, wack]

end Rows

theorem dataless_zero (c : Half) (i : Instr) : dataless c 0 i = .ok i := if_pos rfl

theorem decodeWire_read (h : p.wireOk) (a : Addr) : decodeWire p (withAddr p.opRead a) 0 = .ok (.read a) := by
  obtain ⟨-, hread, -, -, -, rows⟩ := h
  have notStandalone := withAddr_notMem_standalone a hread fun c hc => (rows c hc).1
  rw [decodeWire_of_readRow notStandalone 0 (withAddr_and_addressedMask a hread), dataless_zero, addrOf_withAddr a hread]

theorem decodeWire_write (h : p.wireOk) (a : Addr) (v : Half) :
    decodeWire p (withAddr p.opWrite a) v = .ok (.write a v) := by
  obtain ⟨-, -, hwrite, -, hne, rows⟩ := h
  have notStandalone := withAddr_notMem_standalone a hwrite fun c hc => (rows c hc).2
  have row := withAddr_and_addressedMask a hwrite
  rw [decodeWire_of_writeRow notStandalone v (row.trans_ne hne.symm) row, addrOf_withAddr a hwrite]

theorem decodeWire_wack (h : p.wireOk) (hd : p.wackDistinct) (a : Addr) :
    decodeWire p (withAddr p.opWack a) 0 = .ok (.wack a) := by
  obtain ⟨-, -, -, hwack, -, -⟩ := h
  obtain ⟨ne_read, ne_write, own⟩ := hd
  have notStandalone := withAddr_notMem_standalone a hwack own
  have row := withAddr_and_addressedMask a hwack
  rw [decodeWire_of_wackRow notStandalone 0 (row.trans_ne ne_read) (row.trans_ne ne_write) row, dataless_zero,
    addrOf_withAddr a hwack]

/-- A host operation is read back from its request (R95). -/
theorem decode_encode_of_request {r : Request} {i : Instr} (h : encode p i = .request r) :
    decode p (encode p i) = .ok i := by
  rw [h]
  exact decodeRequest_of_encode h

end Sys2Proof
end

section
/-! SUPPORT for the statements of 41_register_access.md: how a write ends. -/
namespace Sys2Proof.Machine

/-- A write ends in a status that the acknowledgement compare decides, and changes nothing else (R128, R211). -/
theorem concludeWrite_eq_endFlags (a : Addr) (s : State) :
    ∃ ok err, concludeWrite a s = endFlags ok err s ∧
      (response s = withAddr s.cfg.opWack a → ok = true ∧ err = 0) ∧
      (response s ≠ withAddr s.cfg.opWack a → ok = false ∧ err = failCode .ack) := by
  by_cases h : response s = withAddr s.cfg.opWack a
  · exact ⟨true, 0, concludeWrite_ack h, fun _ => ⟨rfl, rfl⟩, absurd h⟩
  · exact ⟨false, failCode .ack, concludeWrite_noAck h, (absurd · h), fun _ => ⟨rfl, rfl⟩⟩

end Sys2Proof.Machine
end

section
/-! The obligations of 41_register_access.md. -/
namespace Sys2Proof.Proofs
open Sys2Proof.Machine

/-- Settles O2: a standalone word by its 16 bits, an addressed word by its row, a request by its `OP`. -/
theorem decodeOfEncodeIsTheInstruction : Obligations.DecodeOfEncodeIsTheInstruction := by
  unfold Obligations.DecodeOfEncodeIsTheInstruction
  refine ⟨fun p i hw hwack => ?_, fun p a hw same => ?_⟩
  · obtain ⟨null, reset, standby, wakeup, lock, unlock⟩ := decodeWire_standalone hw.1 0
    cases i
    case null => exact null
    case reset => exact reset
    case standby => exact standby
    case wakeup => exact wakeup
    case lock => exact lock
    case unlock => exact unlock
    case read a => exact decodeWire_read hw a
    case write a v => exact decodeWire_write hw a v
    case wack a => exact decodeWire_wack hw (hwack a rfl) a
    all_goals exact decode_encode_of_request rfl
  · show decodeWire p (withAddr p.opWack a) 0 = .ok (.write a 0)
    rw [same]
    exact decodeWire_write hw a 0

/-- Settles O24: `DevRead` is two frames, and the response is the start of the second. -/
theorem rdregReturnsSecondResponse : Obligations.RdregReturnsSecondResponse := by
  unfold Obligations.RdregReturnsSecondResponse
  refine ⟨fun r h => by simp [decodeRequest, h], fun s a ht ha => ?_, fun s a ha => ?_⟩
  · obtain ⟨is1, is2, len1, len2, trace, rx, cs⟩ := devRead_spec (addrBits a) s
    exact ⟨effect (.rdreg a) s, is1, is2, exec_of_transport ht (decide_eq_true ha) nofun,
      ⟨len1, len2, trace, rx, cs⟩, response_of_rx rx, ⟨⟨rfl, rfl, rfl⟩, rfl, rfl⟩, ⟨rfl, rfl, rfl, rfl⟩,
      ⟨rfl, rfl⟩, rfl, rfl, rfl, rfl⟩
  · exact failsParam_of (exec_not_wellFormed (decide_eq_false (Nat.not_le.mpr ha)))

/-- Settles O25: `DevWrite` is two frames, and the compare of the second one's response decides the status. -/
theorem wrregSucceedsIffAcknowledged : Obligations.WrregSucceedsIffAcknowledged := by
  unfold Obligations.WrregSucceedsIffAcknowledged
  refine ⟨fun r h => by simp [decodeRequest, h], fun s a v ht ha => ?_, fun s a v ha => ?_⟩
  · obtain ⟨is1, is2, len1, len2, trace, rx, cs⟩ := devWrite_spec (addrBits a) v s
    obtain ⟨ok, err, concluded, acked, refused⟩ := concludeWrite_eq_endFlags (addrBits a) (devWrite (addrBits a) v s)
    rw [response_of_rx rx] at acked refused
    refine ⟨endFlags ok err (devWrite (addrBits a) v s), is1, is2, ?_, ⟨len1, len2, trace, rx, cs⟩,
      fun h => ⟨⟨rfl, rfl, rfl⟩, acked h⟩, fun h => ⟨⟨rfl, rfl, rfl⟩, refused h⟩, ⟨rfl, rfl, rfl, rfl⟩,
      ⟨rfl, rfl⟩, rfl, rfl, rfl, rfl, rfl⟩
    rw [exec_of_transport ht (i := .wrreg a v) (decide_eq_true ha) nofun, effect, concluded]
  · exact failsParam_of (exec_not_wellFormed (decide_eq_false (Nat.not_le.mpr ha)))

/-- Settles O26: the body of WRMASK is the masked write at `A[5:0]`, whatever the mask. -/
theorem wrmaskMergesUnderMask : Obligations.WrmaskMergesUnderMask := by
  unfold Obligations.WrmaskMergesUnderMask
  refine ⟨fun r h => by simp [decodeRequest, h], fun s a v m ht ha => ?_, fun s a v m ha => ?_⟩
  · exact ⟨effect (.wrmask a v m) s, exec_of_transport ht (decide_eq_true ha) nofun,
      maskedWrite_spec (addrBits a) v m s⟩
  · exact failsParam_of (exec_not_wellFormed (decide_eq_false (Nat.not_le.mpr ha)))

/-- Settles O27: bit by bit. -/
theorem mergeTakesMaskedBits : Obligations.MergeTakesMaskedBits := by
  unfold Obligations.MergeTakesMaskedBits
  intro old data mask k
  by_cases hk : k < 16
  · simp only [merge, BitVec.getLsbD_or, BitVec.getLsbD_and, BitVec.getLsbD_not, hk, decide_true, Bool.true_and]
    cases mask.getLsbD k <;> simp
  · simp [BitVec.getLsbD_of_ge _ k (Nat.le_of_not_lt hk)]

end Sys2Proof.Proofs
end

section
/-! SUPPORT for the statements of 42_sample_decode.md: the sign extender on bare codes, the lanes an update writes. -/
namespace Sys2Proof.Machine

/-! ### The sign extender (42_sample_decode.md R140, R141) -/

/-- A bare code decodes to its value as a signed 24-bit number. -/
theorem toInt_decode24 (r : Slot) : (decode24 r).toInt = r.toInt :=
  BitVec.toInt_signExtend_of_le (by omega)

theorem decode24_injective : Function.Injective decode24 := by
  intro r r' h
  have values := congrArg BitVec.toInt h
  rw [toInt_decode24, toInt_decode24] at values
  exact BitVec.eq_of_toInt_eq values

theorem decode32_append_zero (r : Slot) : decode32 (r ++ 0#8) = decode24 r := by
  rw [decode32_eq_signExtend, BitVec.extractLsb'_append_eq_left, decode24]

/-! ### The frame and the lanes (R144, R146) -/

/-- A frame is its events on the bus and its bytes in `RX` (40_frame_transport.md R111). -/
theorem frame_spec (c d : Half) (s : State) : ∃ is : List Byte, oneFrame c d is s (frame c d s) := by
  obtain ⟨is, length, trace, received, -⟩ := frameBus_spec s.cfg c d s.bus
  exact ⟨is, length, trace, received, rfl⟩

theorem setLane0_lanes (v : BitVec 32) (s : State) :
    (setLane0 v s).sample[0] = v ∧ (setLane0 v s).sample[1] = s.sample[1] ∧
    (setLane0 v s).sample[2] = s.sample[2] ∧ (setLane0 v s).sample[3] = s.sample[3] := by
  simp

theorem takeLanes_lane (l : Vector Byte 4) (n : Byte) (s : State) (j : Fin 4) :
    (takeLanes l n s).sample[j] = laneValue s l n j := by
  match j with
  | 0 | 1 | 2 | 3 => rfl

end Sys2Proof.Machine
end

section
/-! The obligations of 42_sample_decode.md. -/
namespace Sys2Proof.Proofs
open Sys2Proof.Machine

/-- Settles O28: the shift is the sign extension of the 24 high bits, and only lane 0 is written. -/
theorem decodeSignExtendsContainer : Obligations.DecodeSignExtendsContainer := by
  unfold Obligations.DecodeSignExtendsContainer
  refine ⟨fun r h => by simp [decodeRequest, h], fun s w => ?_⟩
  obtain ⟨lane0, lane1, lane2, lane3⟩ := setLane0_lanes (decode32 w) s
  exact ⟨effect (.decode w) s, rfl, lane0.trans (decode32_eq_signExtend w), lane1, lane2, lane3,
    ⟨⟨rfl, rfl, rfl⟩, rfl, rfl⟩, ⟨rfl, rfl, rfl, rfl⟩, ⟨rfl, rfl⟩, rfl, rfl, rfl, rfl, rfl, rfl, rfl, rfl⟩

/-- Settles O29: one frame, and each lane in use takes its channel's container of that frame. -/
theorem rdchsDecodesLanesInOrder : Obligations.RdchsDecodesLanesInOrder := by
  unfold Obligations.RdchsDecodesLanesInOrder
  refine ⟨fun r h => by simp [decodeRequest, h], fun s l n ht hn hl => ?_, fun s l n bad => ?_⟩
  · obtain ⟨is, length, trace, received, cs⟩ := frame_spec s.cfg.opNull 0#16 s
    have lanes (j : Fin 4) := (takeLanes_lane l n (frame s.cfg.opNull 0#16 s) j).trans (laneValue_of_rx received (hl j))
    exact ⟨effect (.rdchs l n) s, is, exec_of_transport ht ((wellFormed_rdchs s.cfg l n).mpr ⟨hn, hl⟩) nofun,
      ⟨length, trace, received, cs⟩, lanes, ⟨⟨rfl, rfl, rfl⟩, rfl, rfl⟩, ⟨rfl, rfl, rfl, rfl⟩, ⟨rfl, rfl⟩,
      rfl, rfl, rfl, rfl⟩
  · refine failsParam_of (exec_not_wellFormed (Bool.eq_false_iff.mpr fun wellFormed => ?_))
    obtain ⟨count, inRange⟩ := (wellFormed_rdchs s.cfg l n).mp wellFormed
    obtain tooMany | ⟨j, used, tooHigh⟩ := bad
    · omega
    · exact absurd (inRange j used) (Nat.not_le.mpr tooHigh)

/-- Settles O30: one frame, and lane 0 takes the channel's container of that frame. -/
theorem rdchDecodesOneChannel : Obligations.RdchDecodesOneChannel := by
  unfold Obligations.RdchDecodesOneChannel
  refine ⟨fun r h => by simp [decodeRequest, h], fun s i ht hi => ?_, fun s i hi => ?_⟩
  · obtain ⟨is, length, trace, received, cs⟩ := frame_spec s.cfg.opNull 0#16 s
    have code : decode32 (channelWord (frame s.cfg.opNull 0#16 s).rx i) = (codeOf is i.toNat).signExtend 32 := by
      rw [received, decode32_channelWord hi]
    obtain ⟨lane0, lane1, lane2, lane3⟩ := setLane0_lanes _ (frame s.cfg.opNull 0#16 s)
    exact ⟨effect (.rdch i) s, is, exec_of_transport ht (decide_eq_true hi) nofun, ⟨length, trace, received, cs⟩,
      lane0.trans code, lane1, lane2, lane3, ⟨⟨rfl, rfl, rfl⟩, rfl, rfl⟩, ⟨rfl, rfl, rfl, rfl⟩, ⟨rfl, rfl⟩,
      rfl, rfl, rfl, rfl⟩
  · exact failsParam_of (exec_not_wellFormed (decide_eq_false (Nat.not_le.mpr hi)))

/-- Settles O31: a code's value is its own as a signed 24-bit number, and those are all of −2^23 .. 2^23−1. -/
theorem signExtenderIsBijective : Obligations.SignExtenderIsBijective := by
  unfold Obligations.SignExtenderIsBijective
  refine ⟨fun r => ?_, decode24_injective, fun v lower upper => ⟨BitVec.ofInt 24 v, ?_⟩,
    fun r => (decode32_append_zero r).symm, decode32_eq_signExtend⟩
  · rw [toInt_decode24, BitVec.toInt_eq_toNat_cond]
    have half : 2 * r.toNat < 2 ^ 24 ↔ r.toNat < 2 ^ 23 := by omega
    simp only [half]
    rfl
  · rw [toInt_decode24, BitVec.toInt_ofInt_eq_self (by omega) (by omega) (by omega)]

end Sys2Proof.Proofs
end

section
/-! SUPPORT for the statements of 43_scaling.md: division rounding toward zero, and the values that `VOLT` and `GAS` hold. -/
namespace Sys2Proof.Machine

/-! ### Division rounding toward zero (43_scaling.md R159) -/

/-- The quotient misses the exact one by less than one unit. -/
theorem abs_tdiv_mul_sub_lt (a : Int) {d : Int} (hd : 0 < d) : |a.tdiv d * d - a| < d := by
  have euclid := Int.tdiv_mul_add_tmod a d
  have lower := Int.lt_tmod_of_pos a hd
  have upper := Int.tmod_lt_of_pos a hd
  exact abs_lt.mpr ⟨by omega, by omega⟩

/-! ### The scaler (R156, R158) -/

theorem scaleInt_neg (c : Int) (fs : BitVec 31) : scaleInt (-c) fs = -scaleInt c fs := by
  rw [scaleInt, Int.neg_mul, Int.neg_tdiv, scaleInt]

theorem scaleInt_zero (fs : BitVec 31) : scaleInt 0 fs = 0 := by
  rw [scaleInt, Int.zero_mul, Int.zero_tdiv]

/-- The top code is full scale. -/
theorem scaleInt_fsCodes (fs : BitVec 31) : scaleInt fsCodes fs = fs.toNat :=
  Int.mul_tdiv_cancel_left _ (by decide)

theorem scaleInt_error_lt (c : Int) (fs : BitVec 31) : |scaleInt c fs * fsCodes - c * (fs.toNat : Int)| < fsCodes :=
  abs_tdiv_mul_sub_lt (c * fs.toNat) (by decide)

/-- The bound of R158: 2^31 + 256 takes a 33rd bit, and `VOLT` has 64. -/
theorem abs_scaleInt_le {c : Int} (fs : BitVec 31) (lower : -8388608 ≤ c) (upper : c ≤ 8388607) :
    |scaleInt c fs| ≤ 2 ^ 31 + 256 := by
  have code : |c| ≤ 2 ^ 23 := abs_le.mpr ⟨lower, by omega⟩
  have full : |(fs.toNat : Int)| ≤ 2 ^ 31 - 1 := abs_le.mpr ⟨by omega, by omega⟩
  have product : |c * (fs.toNat : Int)| ≤ 2 ^ 23 * (2 ^ 31 - 1) :=
    (abs_mul _ _).trans_le (mul_le_mul code full (abs_nonneg _) (by decide))
  have error := scaleInt_error_lt c fs
  rw [fsCodes, abs_lt] at error
  rw [abs_le] at product ⊢
  omega

/-- `VOLT` holds the scaled value of every 24-bit code exactly. -/
theorem toInt_scale64 {w : BitVec 32} (fs : BitVec 31) (hw : inRange24 w) :
    (scale64 w fs).toInt = scaleInt w.toInt fs := by
  have bound := abs_le.mp (abs_scaleInt_le fs hw.1 hw.2)
  exact BitVec.toInt_ofInt_eq_self (by omega) (by omega) (by omega)

theorem wellFormed_scale (p : Params) (w : BitVec 32) : (Instr.scale w).wellFormed p = true ↔ inRange24 w := by
  simp [Instr.wellFormed, inRange24]

/-! ### The linear transform (R163) -/

/-- `GAS` holds every exact result that fits a signed 64-bit register. -/
theorem toInt_takeGas_gas {s : State} (lower : -(2 ^ 63) ≤ gasInt s.cfg s.volt.toInt)
    (upper : gasInt s.cfg s.volt.toInt < 2 ^ 63) : (takeGas s).gas.toInt = gasInt s.cfg s.volt.toInt := by
  have fits : fits64 (gasInt s.cfg s.volt.toInt) = true := by
    simp only [fits64, Bool.and_eq_true, decide_eq_true_eq]
    omega
  rw [takeGas_gas, if_pos fits]
  exact BitVec.toInt_ofInt_eq_self (by omega) lower upper

/-- A `VOLT` within the scaler's bound gives a `GAS` below 2^40, whatever the calibration. -/
theorem abs_gasInt_lt {p : Params} {v : Int} (hv : |v| ≤ 2 ^ 31 + 256) (hf : p.kFrac = 16) :
    |gasInt p v| < 2 ^ 40 := by
  have zeroLower := BitVec.le_toInt p.zUv
  have zeroUpper := BitVec.toInt_lt (x := p.zUv)
  have gainLower := BitVec.le_toInt p.kQ
  have gainUpper := BitVec.toInt_lt (x := p.kQ)
  have offset : |v - p.zUv.toInt| ≤ 2 ^ 32 + 256 := by
    rw [abs_le] at hv ⊢
    omega
  have gain : |p.kQ.toInt| ≤ 2 ^ 23 := abs_le.mpr ⟨gainLower, gainUpper.le⟩
  have product : |(v - p.zUv.toInt) * p.kQ.toInt| ≤ (2 ^ 32 + 256) * 2 ^ 23 :=
    (abs_mul _ _).trans_le (mul_le_mul offset gain (abs_nonneg _) (by decide))
  have error : |gasInt p v * 65536 - (v - p.zUv.toInt) * p.kQ.toInt| < 65536 := by
    rw [gasInt, hf]
    exact abs_tdiv_mul_sub_lt _ (by decide)
  rw [abs_lt] at error ⊢
  rw [abs_le] at product
  omega

end Sys2Proof.Machine
end

section
/-! The obligations of 43_scaling.md. -/
namespace Sys2Proof.Proofs
open Sys2Proof.Machine

/-- Settles O32: a code in range is scaled into `VOLT`, which has room for the result. -/
theorem scaleRoundsTowardZero : Obligations.ScaleRoundsTowardZero := by
  unfold Obligations.ScaleRoundsTowardZero
  refine ⟨fun r h => by simp [decodeRequest, h], fun s w lower upper => ?_, fun s w bad => ?_⟩
  · exact ⟨effect (.scale w) s, exec_eq_effect s (.scale w) ((wellFormed_scale _ w).mpr ⟨lower, upper⟩) nofun (.inr rfl),
      toInt_scale64 s.cfg.fsUv ⟨lower, upper⟩, ⟨⟨rfl, rfl, rfl⟩, rfl, rfl⟩, ⟨rfl, rfl, rfl, rfl⟩, ⟨rfl, rfl⟩,
      rfl, rfl, rfl, rfl, rfl, rfl, rfl, rfl⟩
  · refine failsParam_of (exec_not_wellFormed (Bool.eq_false_iff.mpr fun wellFormed => ?_))
    obtain ⟨lower, upper⟩ := (wellFormed_scale s.cfg w).mp wellFormed
    omega

/-- Settles O33: the laws of a division that rounds toward zero. -/
theorem scaleIsExactToOneMicrovolt : Obligations.ScaleIsExactToOneMicrovolt := by
  unfold Obligations.ScaleIsExactToOneMicrovolt
  exact fun c fs => ⟨scaleInt_error_lt c fs, scaleInt_neg c fs, scaleInt_zero fs, scaleInt_fsCodes fs, abs_scaleInt_le fs⟩

/-- Settles O34: one frame, its channel's container decoded to lane 0, and that lane scaled into `VOLT`. -/
theorem rdvoltScalesDecodedChannel : Obligations.RdvoltScalesDecodedChannel := by
  unfold Obligations.RdvoltScalesDecodedChannel
  refine ⟨fun r h => by simp [decodeRequest, h], fun s i ht hi => ?_, fun s i hi => ?_⟩
  · obtain ⟨is, length, trace, received, cs⟩ := frame_spec s.cfg.opNull 0#16 s
    have code : decode32 (channelWord (frame s.cfg.opNull 0#16 s).rx i) = decode24 (codeOf is i.toNat) := by
      rw [received, decode32_channelWord hi, decode24]
    obtain ⟨lane0, lane1, lane2, lane3⟩ :=
      setLane0_lanes (decode32 (channelWord (frame s.cfg.opNull 0#16 s).rx i)) (frame s.cfg.opNull 0#16 s)
    have volt : (effect (.rdvolt i) s).volt.toInt = scaleInt (codeOf is i.toNat).toInt s.cfg.fsUv := by
      have inRange := decode32_inRange24 (channelWord (frame s.cfg.opNull 0#16 s).rx i)
      rw [← lane0] at inRange
      refine (toInt_scale64 s.cfg.fsUv inRange).trans ?_
      rw [lane0, code, toInt_decode24]
    exact ⟨effect (.rdvolt i) s, is, exec_of_transport ht (decide_eq_true hi) nofun, ⟨length, trace, received, cs⟩,
      lane0.trans code, lane1, lane2, lane3, volt, ⟨⟨rfl, rfl, rfl⟩, rfl, rfl⟩, ⟨rfl, rfl, rfl, rfl⟩, ⟨rfl, rfl⟩,
      rfl, rfl, rfl⟩
  · exact failsParam_of (exec_not_wellFormed (decide_eq_false (Nat.not_le.mpr hi)))

/-- Settles O35: `GAS` takes the exact result where it fits, and from the scaler's values it stays far inside. -/
theorem gasconvIsLinearInVolt : Obligations.GasconvIsLinearInVolt := by
  unfold Obligations.GasconvIsLinearInVolt
  refine ⟨fun r h => by simp [decodeRequest, h], fun s => ⟨effect .gasconv s, rfl, ?fits, ?scaled,
    ⟨⟨rfl, rfl, rfl⟩, rfl, rfl⟩, ⟨rfl, rfl, rfl, rfl⟩, ⟨rfl, rfl⟩, rfl, rfl, rfl, rfl, rfl, rfl, rfl, rfl⟩⟩
  case fits =>
    rintro g rfl lower upper
    exact toInt_takeGas_gas lower upper
  case scaled =>
    intro hv hf
    have small : |gasInt s.cfg s.volt.toInt| < 2 ^ 40 := abs_gasInt_lt hv hf
    have bounds := abs_lt.mp small
    have gas : (effect .gasconv s).gas.toInt = gasInt s.cfg s.volt.toInt :=
      toInt_takeGas_gas (by omega) (by omega)
    refine ⟨?_, by rwa [gas]⟩
    rw [gas, gasInt, hf]
    rfl

end Sys2Proof.Proofs
end

section
/-! SUPPORT for the statements of 44_config_ops.md: how an identity read ends, the fields of a merged word, the packed
operands. -/
namespace Sys2Proof.Machine

/-! ### The identity check (44_config_ops.md R170) -/

/-- An identity read ends in a status that the identity compare decides, and changes nothing else (R170, R208). -/
theorem concludeId_eq_endFlags (s : State) :
    ∃ ok err, concludeId s = endFlags ok err s ∧
      (s.rdata &&& s.cfg.idMask = s.cfg.idExpect &&& s.cfg.idMask → ok = true ∧ err = 0) ∧
      (s.rdata &&& s.cfg.idMask ≠ s.cfg.idExpect &&& s.cfg.idMask → ok = false ∧ err = failCode .id) := by
  by_cases h : s.rdata &&& s.cfg.idMask = s.cfg.idExpect &&& s.cfg.idMask
  · exact ⟨true, 0, concludeId_match h, fun _ => ⟨rfl, rfl⟩, absurd h⟩
  · exact ⟨false, failCode .id, concludeId_mismatch h, (absurd · h), fun _ => ⟨rfl, rfl⟩⟩

/-- RDID, and BEGIN with a valid transport, share the identity check (R170, R172). -/
theorem identifies_of_exec {i : Instr} {s : State} (h : exec i s = .next (identify s)) : identifies i s := by
  obtain ⟨is1, is2, len1, len2, trace, rx, cs⟩ := devRead_spec 0#6 s
  have read : response (devRead 0#6 s) = respOf is2 := response_of_rx rx
  obtain ⟨ok, err, concluded, matched, mismatched⟩ := concludeId_eq_endFlags (takeResponse (devRead 0#6 s))
  rw [takeResponse_rdata, read] at matched mismatched
  refine ⟨endFlags ok err (takeResponse (devRead 0#6 s)), is1, is2, ?_, ⟨len1, len2, trace, rx, cs⟩, read,
    fun same => ⟨⟨rfl, rfl, rfl⟩, matched same⟩, fun other => ⟨⟨rfl, rfl, rfl⟩, mismatched other⟩, ⟨rfl, rfl, rfl, rfl⟩,
    ⟨rfl, rfl⟩, rfl, rfl, rfl, rfl⟩
  rw [h, identify, concluded]

/-! ### The merged word (41_register_access.md R131) -/

theorem maskedWriteDone.tmpNew_eq {a : Addr} {data mask : Half} {s t : State} (h : maskedWriteDone a data mask s t) :
    t.tmpNew = merge t.tmpOld data mask := by
  obtain ⟨is1, is2, is3, is4, -, -, -, -, old, -, new, -⟩ := h
  rw [new, old, merge]

theorem merge_full (old data : Half) : merge old data 0xFFFF#16 = data := by
  rw [merge, show ~~~0xFFFF#16 = 0#16 from rfl, BitVec.and_zero, BitVec.zero_or]
  exact BitVec.and_allOnes

/-- Inside the mask a field is the data's. -/
theorem extract_merge_inside {old data mask : Half} {i n : Nat} (h : ∀ k < n, mask.getLsbD (i + k) = true) :
    (merge old data mask).extractLsb' i n = data.extractLsb' i n := by
  apply BitVec.eq_of_getLsbD_eq
  intro k hk
  simp only [BitVec.getLsbD_extractLsb', Proofs.mergeTakesMaskedBits old data mask (i + k), h k hk, if_true]

/-- Outside the mask a field stays as read. -/
theorem extract_merge_outside {old data mask : Half} {i n : Nat} (h : ∀ k < n, mask.getLsbD (i + k) = false) :
    (merge old data mask).extractLsb' i n = old.extractLsb' i n := by
  apply BitVec.eq_of_getLsbD_eq
  intro k hk
  simp only [BitVec.getLsbD_extractLsb', Proofs.mergeTakesMaskedBits old data mask (i + k), h k hk, if_false,
    Bool.false_eq_true]

/-! ### The packed operands (30_encoding.md R89, R90) -/

/-- A gain code stands in its own nibble, and every other nibble of its word is zero. -/
theorem extract_gainNibble (c : Byte) (m n : Fin 4) :
    (gainNibble c <<< (4 * m.val)).extractLsb' (4 * n.val) 4 = if m = n then c.setWidth 4 else 0 := by
  apply BitVec.eq_of_getLsbD_eq
  intro k hk
  simp only [gainNibble, BitVec.getLsbD_extractLsb', BitVec.getLsbD_shiftLeft, BitVec.getLsbD_setWidth]
  split
  case isTrue same =>
    subst same
    have inWord : 4 * m.val + k < 16 := by omega
    simp [hk, inWord, Nat.lt_of_lt_of_le hk]
  case isFalse other =>
    have outside : 4 * n.val + k < 4 * m.val ∨ 4 ≤ 4 * n.val + k - 4 * m.val := by omega
    obtain below | above := outside
    · simp [below]
    · simp [Nat.not_lt.mpr above]

theorem extract_packGain (g : Vector Byte 4) (n : Fin 4) : (packGain g).extractLsb' (4 * n.val) 4 = g[n].setWidth 4 := by
  have code0 := extract_gainNibble g[0] 0 n
  have code1 : (gainNibble g[1] <<< 4).extractLsb' _ 4 = _ := extract_gainNibble g[1] 1 n
  have code2 : (gainNibble g[2] <<< 8).extractLsb' _ 4 = _ := extract_gainNibble g[2] 2 n
  have code3 : (gainNibble g[3] <<< 12).extractLsb' _ 4 = _ := extract_gainNibble g[3] 3 n
  rw [Fin.val_zero, Nat.mul_zero, BitVec.shiftLeft_zero] at code0
  simp only [packGain, BitVec.extractLsb'_or, code0, code1, code2, code3]
  match n with
  | 0 | 1 | 2 | 3 => simp

theorem wellFormed_setgain_iff_forall (p : Params) (g : Vector Byte 4) :
    (Instr.setgain g).wellFormed p = true ↔ ∀ n : Fin 4, g[n].toNat ≤ p.gainMax := by
  rw [wellFormed_setgain]
  simp [Fin.forall_fin_succ]

theorem getLsbD_packChop_enable (en : Byte) (delay : Half) : (packChop en delay).getLsbD 8 = en.getLsbD 0 := by
  simp [packChop]

theorem extract_packChop_delay (en : Byte) (delay : Half) :
    (packChop en delay).extractLsb' 9 7 = (delay - 1).setWidth 7 := by
  apply BitVec.eq_of_getLsbD_eq
  intro k hk
  have inWord : 9 + k < 16 := by omega
  have aboveEnable : ¬ 9 + k - 8 < 1 := by omega
  simp [packChop, hk, inWord, aboveEnable]

theorem wellFormed_gchop (p : Params) (en : Byte) (delay : Half) :
    (Instr.gchop en delay).wellFormed p = true ↔ en.toNat ≤ 1 ∧ 1 ≤ delay.toNat ∧ delay.toNat ≤ p.chopDelayMax := by
  simp only [Instr.wellFormed, Bool.and_eq_true, decide_eq_true_eq]

/-- An enable in range is its low bit. -/
theorem getLsbD_zero_of_toNat_le_one {b : Byte} (h : b.toNat ≤ 1) : b.getLsbD 0 = decide (b = 1) := by
  have zeroOrOne : b = 0 ∨ b = 1 := by bv_omega
  obtain rfl | rfl := zeroOrOne <;> rfl

end Sys2Proof.Machine
end

section
/-! The obligations of 44_config_ops.md. -/
namespace Sys2Proof.Proofs
open Sys2Proof.Machine

/-- Settles O36: with a valid transport RDID is the identity check. -/
theorem rdidComparesIdentity : Obligations.RdidComparesIdentity := by
  unfold Obligations.RdidComparesIdentity
  exact ⟨fun r h => by simp [decodeRequest, h], fun s ht => identifies_of_exec (exec_of_transport ht rfl nofun)⟩

/-- Settles O37: the transport check decides between INIT and the identity check. -/
theorem beginChecksTransportThenIdentity : Obligations.BeginChecksTransportThenIdentity := by
  unfold Obligations.BeginChecksTransportThenIdentity
  refine ⟨fun r h => by simp [decodeRequest, h], fun s ht => identifies_of_exec (exec_of_transport ht rfl nofun),
    fun s ht => ⟨fail .init s, if_neg (by simp [ht]), ⟨⟨rfl, rfl, rfl⟩, rfl, rfl⟩, ⟨rfl, rfl, rfl, rfl⟩, ⟨rfl, rfl⟩, rfl,
      ⟨rfl, rfl, rfl, rfl⟩, ⟨rfl, rfl, rfl, rfl⟩, rfl⟩⟩

/-- Settles O38: under the full mask the word written is the packed codes, whatever was read. -/
theorem setgainWritesPackedCodes : Obligations.SetgainWritesPackedCodes := by
  unfold Obligations.SetgainWritesPackedCodes
  refine ⟨fun r h => by simp [decodeRequest, h], fun s g ht hg => ?_, fun s g ⟨n, hn⟩ => ?_⟩
  · have written : maskedWriteDone 0x04#6 (packGain g) 0xFFFF#16 s (effect (.setgain g) s) :=
      maskedWrite_spec 0x04#6 (packGain g) 0xFFFF#16 s
    refine ⟨effect (.setgain g) s, exec_of_transport ht ((wellFormed_setgain_iff_forall s.cfg g).mpr hg) nofun, written,
      fun n => ?_⟩
    rw [written.tmpNew_eq, merge_full, extract_packGain]
  · refine failsParam_of (exec_not_wellFormed (Bool.eq_false_iff.mpr fun wellFormed => ?_))
    exact absurd ((wellFormed_setgain_iff_forall s.cfg g).mp wellFormed n) (Nat.not_le.mpr hn)

/-- Settles O39: the two chop fields lie inside the mask, and bits 7:0 outside it. -/
theorem gchopWritesChopFields : Obligations.GchopWritesChopFields := by
  unfold Obligations.GchopWritesChopFields
  refine ⟨fun r h => by simp [decodeRequest, h], fun s en delay ht hen lower upper => ?_, fun s en delay bad => ?_⟩
  · have written : maskedWriteDone 0x06#6 (packChop en delay) 0xFF00#16 s (effect (.gchop en delay) s) :=
      maskedWrite_spec 0x06#6 (packChop en delay) chopMask s
    refine ⟨effect (.gchop en delay) s,
      exec_of_transport ht ((wellFormed_gchop s.cfg en delay).mpr ⟨hen, lower, upper⟩) nofun, written, ?_⟩
    rw [written.tmpNew_eq]
    refine ⟨?enable, ?delay, extract_merge_outside (by decide)⟩
    case enable =>
      rw [mergeTakesMaskedBits _ _ _ 8, if_pos (by decide), getLsbD_packChop_enable, getLsbD_zero_of_toNat_le_one hen]
    case delay =>
      have minusOne : (delay - 1).toNat = delay.toNat - 1 := BitVec.toNat_sub_of_le lower
      rw [extract_merge_inside (by decide), extract_packChop_delay, BitVec.toNat_setWidth, minusOne]
  · refine failsParam_of (exec_not_wellFormed (Bool.eq_false_iff.mpr fun wellFormed => ?_))
    obtain ⟨enable, positive, bounded⟩ := (wellFormed_gchop s.cfg en delay).mp wellFormed
    omega

/-- Settles O40: the masked write of the field, with the position and the mask of the configuration. -/
theorem setosrWritesOversamplingField : Obligations.SetosrWritesOversamplingField := by
  unfold Obligations.SetosrWritesOversamplingField
  refine ⟨fun r h => by simp [decodeRequest, h], fun s c ht hc => ?_, fun s c hc => ?_⟩
  · exact ⟨effect (.setosr c) s, exec_of_transport ht (decide_eq_true hc) nofun,
      maskedWrite_spec 0x03#6 (packField c s.cfg.osrLsb) s.cfg.osrMask s⟩
  · exact failsParam_of (exec_not_wellFormed (decide_eq_false (Nat.not_le.mpr hc)))

/-- Settles O41: as SETOSR, with the power field's position and mask. -/
theorem setpwrWritesPowerField : Obligations.SetpwrWritesPowerField := by
  unfold Obligations.SetpwrWritesPowerField
  refine ⟨fun r h => by simp [decodeRequest, h], fun s c ht hc => ?_, fun s c hc => ?_⟩
  · exact ⟨effect (.setpwr c) s, exec_of_transport ht (decide_eq_true hc) nofun,
      maskedWrite_spec 0x03#6 (packField c s.cfg.pwrLsb) s.cfg.pwrMask s⟩
  · exact failsParam_of (exec_not_wellFormed (decide_eq_false (Nat.not_le.mpr hc)))

/-- Settles O60: RDREG's second response, masked. -/
theorem drdystatMasksStatus : Obligations.DrdystatMasksStatus := by
  unfold Obligations.DrdystatMasksStatus
  intro s ht
  obtain ⟨-, reads, -⟩ := rdregReturnsSecondResponse
  obtain ⟨t, is1, is2, run, frames, rdata, ended, ⟨-, -, cfg, -⟩, -⟩ := reads s 0x01 ht (by decide)
  have masked : drdyStat t = respOf is2 &&& s.cfg.drdyStatMask := by rw [drdyStat, rdata, cfg]
  exact ⟨t, is1, is2, run, frames, ended, masked, fun k => by rw [masked, BitVec.getLsbD_and]⟩

/-- Settles O42: the one call of `ReadDRDY`, and its level. -/
theorem drdyCopiesLevel : Obligations.DrdyCopiesLevel := by
  unfold Obligations.DrdyCopiesLevel
  refine ⟨fun r h => by simp [decodeRequest, h], fun s hd ht => ?_, fun s hd => if_neg (by simp [hd])⟩
  refine ⟨effect .drdy s, nextLevel s.bus, exec_eq_effect s .drdy rfl (fun _ => hd) (.inl ht), rfl, rfl, ?scripted,
    ⟨⟨rfl, rfl, rfl⟩, rfl, rfl⟩, rfl, rfl, ⟨rfl, rfl, rfl, rfl⟩, ⟨rfl, rfl⟩, rfl, rfl, rfl, rfl⟩
  case scripted =>
    intro level rest levels
    exact ⟨by rw [nextLevel, levels, List.headD_cons], by simp [effect, levels]⟩

end Sys2Proof.Proofs
end

section
/-! SUPPORT for the statements of 45_system_commands.md: an operation that is one frame, and the step of a wire word. -/
namespace Sys2Proof.Machine

variable {s : State}

/-- An operation whose checks pass and whose effect is a frame with `OK = 1` is that frame. -/
theorem sendsOneFrame_of_effect {i : Instr} {c d : Half} (ht : s.cfg.transportValid = true)
    (hw : i.wellFormed s.cfg = true) (h : effect i s = succeed (frame c d s)) (hd : i ≠ .drdy := by nofun) :
    sendsOneFrame i c d s :=
  sendsOneFrame_of_exec ((exec_of_transport ht hw hd).trans (congrArg Host.Outcome.next h))

/-- CMD is the frame of its selector's word (R190). -/
theorem sendsOneFrame_cmd (ht : s.cfg.transportValid = true) {sel : Byte} (hs : sel.toNat ≤ 5) :
    sendsOneFrame (.cmd sel) (standaloneWord s.cfg sel) 0#16 s :=
  sendsOneFrame_of_effect ht (decide_eq_true hs) rfl

/-- The idle machine takes a wire word from the host's list and runs it (log 5). -/
theorem step_wire {c d : Half} {h : List HostAction} (run : s.seq.run = false) (hh : s.host = .wire c d :: h) :
    step s = runWire c d { s with host := h } := by
  simp [step, run, stepIdle, hh]

theorem runWire_decoded {c d : Half} {i : Instr} (h : decodeWire s.cfg c d = .ok i) : runWire c d s = exec i s := by
  rw [runWire, h]

/-- A word that decodes to no instruction is sent as given (93_implementation_defined.md U3; logs 5 and 23). -/
theorem runWire_rejected {c d : Half} {e : Reject} (h : decodeWire s.cfg c d = .error e)
    (ht : s.cfg.transportValid = true) : runWire c d s = .next (succeed (frame c d s)) := by
  rw [runWire, h]
  exact withTransport_valid ht _

end Sys2Proof.Machine
end

section
/-! The obligations of 45_system_commands.md. -/
namespace Sys2Proof.Proofs
open Sys2Proof.Machine

/-- Settles O20: the effect of each wire word is its frame. -/
theorem wireWordIsOneFrame : Obligations.WireWordIsOneFrame := by
  unfold Obligations.WireWordIsOneFrame
  intro s ht
  refine ⟨?_, ?_, ?_, ?_, ?_, ?_, fun a => ?_, fun a v => ?_⟩ <;> exact sendsOneFrame_of_effect ht rfl rfl

/-- Settles O21: one NULL frame, and the compare of its response decides the status. -/
theorem wackComparesResponse : Obligations.WackComparesResponse := by
  unfold Obligations.WackComparesResponse
  intro s a ht
  obtain ⟨is, length, trace, rx, cs⟩ := frame_spec s.cfg.opNull 0#16 s
  obtain ⟨ok, err, concluded, acked, refused⟩ := concludeWrite_eq_endFlags a (frame s.cfg.opNull 0#16 s)
  rw [response_of_rx rx] at acked refused
  refine ⟨endFlags ok err (frame s.cfg.opNull 0#16 s), is, ?_, ⟨length, trace, rx, cs⟩,
    fun same => ⟨⟨rfl, rfl, rfl⟩, acked same⟩, fun other => ⟨⟨rfl, rfl, rfl⟩, refused other⟩, ⟨rfl, rfl, rfl, rfl⟩,
    ⟨rfl, rfl⟩, rfl, rfl, rfl, rfl, rfl⟩
  rw [exec_of_transport ht (i := .wack a) rfl nofun, effect, concluded]

/-- Settles O22: a selector in range names its word, and one above 5 fails the check. -/
theorem cmdSendsSelectedWord : Obligations.CmdSendsSelectedWord := by
  unfold Obligations.CmdSendsSelectedWord
  refine ⟨fun r h => by simp [decodeRequest, h], fun s ht => ?_, fun s sel hs => ?_⟩
  · exact ⟨sendsOneFrame_cmd ht (sel := 0) (by decide), sendsOneFrame_cmd ht (sel := 1) (by decide),
      sendsOneFrame_cmd ht (sel := 2) (by decide), sendsOneFrame_cmd ht (sel := 3) (by decide),
      sendsOneFrame_cmd ht (sel := 4) (by decide), sendsOneFrame_cmd ht (sel := 5) (by decide)⟩
  · exact failsParam_of (exec_not_wellFormed (decide_eq_false (Nat.not_le.mpr hs)))

/-- Settles O9: the decoder decides between the instruction and the frame as given. -/
theorem stepRunsDecodedWireWord : Obligations.StepRunsDecodedWireWord := by
  unfold Obligations.StepRunsDecodedWireWord
  intro s c d h run hh
  rw [step_wire run hh]
  refine ⟨fun i decoded => runWire_decoded decoded, fun e rejected ht => ?_⟩
  obtain ⟨is, sent⟩ := frame_spec c d { s with host := h }
  exact ⟨_, is, runWire_rejected rejected ht, sent, ⟨rfl, rfl, rfl⟩, rfl, rfl⟩

end Sys2Proof.Proofs
end

section
/-! SUPPORT for the statements of 60_exceptions.md: a START that fails its checks, and a call of the running core that is
refused. -/
namespace Sys2Proof.Machine

variable {s : State}

/-- The idle machine takes a non-blocking START from the host's list (10_state.md R26). -/
theorem step_start {h : List HostAction} (run : s.seq.run = false) (hh : s.host = .start :: h) :
    step s = beginOp (startPulse { s with host := h }) := by
  simp [step, run, stepIdle, hh]

/-- START of an operation with an operand out of range: BEGIN, the one with a check before it, has no operand (R215). -/
theorem beginOp_not_wellFormed {i : Instr} (hl : decodeRequest s.lat = .ok i) (hw : i.wellFormed s.cfg = false) :
    beginOp s = .next (fail .param s) := by
  have notBegin : i ≠ .begin := by
    rintro rfl
    cases hw
  simp only [beginOp, hl, notBegin, hw, false_and, if_false, Bool.false_eq_true]

/-- START of BEGIN without a transport (R207). -/
theorem beginOp_begin_init (hl : decodeRequest s.lat = .ok .begin) (ht : s.cfg.transportValid = false) :
    beginOp s = .next (fail .init s) := by
  simp [beginOp, hl, ht]

/-- A START whose checks fail latches the request and sets the failure, and changes nothing else (R210, R212). -/
theorem step_start_fails {x : FailClass} {h : List HostAction} (run : s.seq.run = false) (hh : s.host = .start :: h)
    (failed : beginOp (startPulse { s with host := h }) = .next (fail x (startPulse { s with host := h }))) :
    ∃ t : State, step s = .next t ∧ endedFail x t ∧ t.lat = s.req ∧ t.rdata = s.rdata ∧ sameTemps s t ∧
      sameSamples s t ∧ noBus s t :=
  ⟨_, (step_start run hh).trans failed, ⟨⟨rfl, rfl, rfl⟩, rfl, rfl⟩, rfl, rfl, ⟨rfl, rfl⟩, ⟨rfl, rfl, rfl, rfl⟩,
    rfl, rfl, rfl, rfl⟩

/-- A call of the running core without a transport (93_implementation_defined.md U2; log 8). -/
theorem tick_transportInvalid {i : Instr} (hl : decodeRequest s.lat = .ok i) (ht : s.cfg.transportValid = false)
    (hd : i = .drdy → s.cfg.hasDrdy = true) : tick s = .refused .transportInvalid := by
  have line : ¬ (i = .drdy ∧ ¬ s.cfg.hasDrdy = true) := fun h => h.2 (hd h.1)
  simp only [tick, hl, if_neg line]
  exact withTransport_invalid ht _

/-- DRDY's call without the line, whatever the transport (U5; log 9). -/
theorem tick_drdyAbsent (hl : decodeRequest s.lat = .ok .drdy) (hd : s.cfg.hasDrdy = false) :
    tick s = .refused .drdyAbsent := by
  simp [tick, hl, hd]

end Sys2Proof.Machine
end

section
/-! The obligations of 60_exceptions.md. -/
namespace Sys2Proof.Proofs
open Sys2Proof.Machine

/-- Settles O46: the operation itself is refused by its transport check, and the running core by its call's. -/
theorem invalidTransportIsRefused : Obligations.InvalidTransportIsRefused := by
  unfold Obligations.InvalidTransportIsRefused
  refine ⟨fun _ _ => exec_transportInvalid, fun _ _ hl _ _ => ⟨tick_transportInvalid hl, ?_⟩⟩
  rintro rfl absent
  exact tick_drdyAbsent hl absent

/-- Settles O13: START's checks come before the first call, and a failed one ends the operation where it stands. -/
theorem startChecksBeforeAnyBusTransaction : Obligations.StartChecksBeforeAnyBusTransaction := by
  unfold Obligations.StartChecksBeforeAnyBusTransaction
  intro s h i run hh hr
  refine ⟨fun hw => step_start_fails run hh (beginOp_not_wellFormed hr hw), ?_⟩
  rintro rfl ht
  exact step_start_fails run hh (beginOp_begin_init hr ht)

end Sys2Proof.Proofs
end

section
/-! SUPPORT for the statement of 93_implementation_defined.md: which step the machine takes while an operation runs. -/
namespace Sys2Proof.Machine

/-- While an operation runs, the step is the running core's (10_state.md R26, R28). -/
theorem step_eq_stepBusy {s : State} (run : s.seq.run = true) : step s = stepBusy s :=
  if_pos run

end Sys2Proof.Machine
end

section
/-! The obligation of 93_implementation_defined.md. -/
namespace Sys2Proof.Proofs
open Sys2Proof.Machine

/-- Settles O14: the running core takes the step, and each of these host actions is one that it refuses by name. -/
theorem busyCoreRefusesHost : Obligations.BusyCoreRefusesHost := by
  unfold Obligations.BusyCoreRefusesHost
  intro s h run
  rw [step_eq_stepBusy run]
  refine ⟨fun start => ?_, fun _ call => ?_, fun _ _ wire => ?_, fun reset => ?_, fun _ configure => ?_⟩
  · rw [stepBusy, start]
  · rw [stepBusy, call]
  · rw [stepBusy, wire]
  · rw [stepBusy, reset]
  · rw [stepBusy, configure]

end Sys2Proof.Proofs
end
